-- ==== Sys2Proof/Word.lean ====
section
/-! DEFINITION. The words of the block STW-ARB: tick values, data words, timer registers, command words and event vectors.
Every quantity is unsigned (R6); `BitVec` addition and subtraction are the wrap-around `+_W` and `-_W` of R6. -/

namespace Sys2Proof

/-- A value of `TICKS`, `START_TICK`, `LAP_START`, `LAP[i]` or a duration: `TICK_W = 32` bits (00_scope.md section 5, D4). -/
abbrev Tick := BitVec 32

/-- A response data word (R66) or a 32-bit command operand (R63). -/
abbrev Data := BitVec 32

/-- `PRESCALER`, `PERIOD` or `PULSE`: `TMR_W = 16` bits (R21 to R23). -/
abbrev TmrWord := BitVec 16

/-- A command word `cmd[39:0]` (R60). -/
abbrev CmdWord := BitVec 40

/-- The event inputs `evt[2:0] = rst, edge, tick` (R68). -/
abbrev EvtVec := BitVec 3

end Sys2Proof
end

