-- ==== Sys2Proof/Config.lean ====
section
/-! DEFINITION. The implementation parameters of 00_scope.md section 5, their well-formedness (R3), the reference configuration
and the two free values: what the agents present (R49, R50) and the order of simultaneous arrivals (R51). -/

namespace Sys2Proof

/-- Width of `PRESCALER`, `PERIOD` and `PULSE` in bits (`TMR_W`, decided, D11). -/
def Config.tmrW : Nat := 16

/-- Ticks per second (`TICK_HZ`, decided: 90_conflicts.md C1). -/
def Config.tickHz : Nat := 100

/-- The dimming carrier in Hz (`CARRIER_HZ`, from the source). -/
def Config.carrierHz : Nat := 1000

/-- Blink frequency at reading 0 in millihertz (`BLINK_MIN_MHZ`, from the source). -/
def Config.blinkMinMhz : Nat := 1000

/-- Span of the blink frequency in millihertz (`BLINK_SPAN_MHZ`, from the source). -/
def Config.blinkSpanMhz : Nat := 9000

/-- Number of potentiometer inputs (`POT_CHANNELS`, host-side only). -/
def Config.potChannels : Nat := 2

/-- The parameters no rule fixes: the fields of the configuration record (00_scope.md section 5). -/
structure Params where
  /-- `LAP_N`, the lap capacity. -/
  lapN : Nat
  /-- `VREF_MV`, the top of the reading range in millivolts. -/
  vrefMv : Nat
  /-- `F_IN_HZ`, the timer's input clock. -/
  fInHz : Nat
  /-- `CNT_HZ`, the counting frequency of the base prescaler. -/
  cntHz : Nat
  /-- `BLINK_PERIOD`, counts per blink cycle. -/
  blinkPeriod : Nat
  /-- `TICK_CENTI_DIV`, ticks per centisecond. -/
  tickCentiDiv : Nat
deriving DecidableEq, Repr

/-- R3 (a). -/
abbrev Params.LapCapacityOk (p : Params) : Prop := 1 ≤ p.lapN ∧ p.lapN ≤ 255

/-- R3 (b). -/
abbrev Params.VrefOk (p : Params) : Prop := 1 ≤ p.vrefMv ∧ p.vrefMv < 2 ^ 32

/-- R3 (c): the base prescaler fits its register. -/
abbrev Params.PrescalerOk (p : Params) : Prop :=
  1 ≤ p.fInHz / p.cntHz ∧ p.fInHz / p.cntHz < 2 ^ Config.tmrW

/-- R3 (d): the dimming period fits its register. -/
abbrev Params.CarrierOk (p : Params) : Prop :=
  1 ≤ p.cntHz / Config.carrierHz ∧ p.cntHz / Config.carrierHz < 2 ^ Config.tmrW

/-- R3 (e): the tick period fits its register. -/
abbrev Params.TickPeriodOk (p : Params) : Prop :=
  1 ≤ p.cntHz / Config.tickHz ∧ p.cntHz / Config.tickHz < 2 ^ Config.tmrW

/-- R3 (f). -/
abbrev Params.BlinkPeriodOk (p : Params) : Prop :=
  p.blinkPeriod % 2 = 0 ∧ 2 ≤ p.blinkPeriod ∧ p.blinkPeriod < 2 ^ Config.tmrW

/-- R3 (g): the blink prescaler fits its register over the whole range of frequencies. -/
abbrev Params.BlinkPrescalerOk (p : Params) : Prop :=
  1 ≤ p.fInHz * 1000 / (10000 * p.blinkPeriod) ∧
    p.fInHz * 1000 / (1000 * p.blinkPeriod) < 2 ^ Config.tmrW

/-- R3 (h). -/
abbrev Params.CentiDivOk (p : Params) : Prop := 1 ≤ p.tickCentiDiv

/-- R3: the configuration is well-formed. -/
abbrev Params.WellFormed (p : Params) : Prop :=
  p.LapCapacityOk ∧ p.VrefOk ∧ p.PrescalerOk ∧ p.CarrierOk ∧ p.TickPeriodOk ∧ p.BlinkPeriodOk ∧
    p.BlinkPrescalerOk ∧ p.CentiDivOk

/-- A well-formed configuration. The model is stated only over these (R3), so the check is carried by the type. -/
structure Cfg extends Params where
  ok : toParams.WellFormed
deriving DecidableEq, Repr

/-- The reference configuration `REF` (00_scope.md section 5). -/
def Cfg.ref : Cfg where
  lapN := 4
  vrefMv := 3300
  fInHz := 16000000
  cntHz := 1000000
  blinkPeriod := 1000
  tickCentiDiv := 1
  ok := by decide

/-- What the input ports carry at one instant (R35). -/
structure Machine.Instant where
  /-- `cmd_valid` with the word `cmd_op, cmd_arg`. -/
  cmd : Option CmdWord
  /-- `cfg_ok_i`. -/
  cfgOk : Bool
  /-- A pulse on `tick_i`. -/
  tick : Bool
  /-- The level of `btn_i`. -/
  btn : Bool
  /-- `rst_i` asserted. -/
  rst : Bool
deriving DecidableEq, Repr, Inhabited

/-- FREE VALUE (log entry 2): what the agents present at the `n`-th instant after those that the state lists. R49 admits infinite
executions and R50 any number of events in any order, so it has no body. -/
opaque Config.arrivals : Nat → Machine.Instant

/-- FREE VALUE (log entry 4): which of the arrivals that wait at the same instant is served next, as an index into their list,
for the `n`-th such draw. R51 admits every order, so it has no body. -/
opaque Config.arrivalOrder : Nat → Nat

end Sys2Proof
end

