-- ==== Sys2Proof/Machine/State.lean ====
section
/-! DEFINITION. The state: the record S of 10_state.md, the ports of R35, the configuration, and the state after reset (R36). -/

namespace Sys2Proof.Machine

/-- What the machine stops with. The block has no such case: its one exception, `CfgFail`, latches `FAULT` and the block goes on
answering (R160, R161, R163), so it is a next state and this type is empty (log entry 8). -/
inductive Fault where
deriving DecidableEq, Repr

/-- Why an instruction has no meaning. -/
inductive Refusal where
  /-- Raised by `exec` for an instruction that is not modelled yet (none is left). Safe: nothing is proved of it. -/
  | notModelled (mnemonic : String)
  /-- Raised by `CFG_BLINK mv` and `CFG_DIM mv` with `mv > VREF_MV`, to which R135 gives no meaning. Safe: the spec defines no
  effect there, and the model claims none. -/
  | readingAboveVref (mv : Data)
deriving DecidableEq, Repr

/-- `MODE` (R20). -/
inductive Mode where
  | idle | tick | blink | dim
deriving DecidableEq, Repr

/-- The numeric encoding of `MODE` (R20). -/
def Mode.code : Mode → BitVec 2
  | .idle => 0#2
  | .tick => 1#2
  | .blink => 2#2
  | .dim => 3#2

/-- The seven elements of the shared timer (R130, R20 to R26). -/
structure SharedTimer where
  /-- `MODE` (R20). -/
  mode : Mode
  /-- `PRESCALER`, the divide ratio itself (R21). -/
  prescaler : TmrWord
  /-- `PERIOD`, counts per cycle (R22). -/
  period : TmrWord
  /-- `PULSE`, active counts per cycle (R23). -/
  pulse : TmrWord
  /-- `CH_EN` (R24). -/
  chEn : Bool
  /-- `FREQ_MHZ` (R25). -/
  freqMhz : BitVec 16
  /-- `DUTY_PCT` (R26). -/
  dutyPct : BitVec 8
deriving DecidableEq, Repr

/-- The shared timer with nothing configured: the row `IDLE` of R29. -/
def SharedTimer.idle : SharedTimer where
  mode := .idle
  prescaler := 0
  period := 0
  pulse := 0
  chEn := false
  freqMhz := 0
  dutyPct := 0

/-- The record S of 10_state.md: the block's whole architectural state. -/
structure Block where
  /-- `TICKS` (R12). -/
  ticks : Tick
  /-- `PRESS` (R13). -/
  press : Bool
  /-- `RUNNING` (R14). -/
  running : Bool
  /-- `START_TICK` (R15). -/
  startTick : Tick
  /-- `LAP_START` (R16). -/
  lapStart : Tick
  /-- `LAP[0]` to `LAP[LAP_N - 1]` (R17): `LAP_N` entries in every well-formed state (log entry 9). -/
  laps : List Tick
  /-- `LAP_COUNT` (R18). -/
  lapCount : BitVec 8
  /-- The shared timer (R20 to R26). -/
  tmr : SharedTimer
  /-- `FAULT` (R27). -/
  fault : Bool
deriving DecidableEq, Repr

/-- S after `@RESET`: every element 0 (R36). -/
def Block.reset (c : Cfg) : Block where
  ticks := 0
  press := false
  running := false
  startTick := 0
  lapStart := 0
  laps := List.replicate c.lapN 0
  lapCount := 0
  tmr := SharedTimer.idle
  fault := false

/-- Status codes (R67). -/
inductive Status where
  | ok | empty | full | cfgFail | halted | illegal
deriving DecidableEq, Repr

/-- The numeric status codes (R67). -/
def Status.code : Status → BitVec 4
  | .ok => 0x0#4
  | .empty => 0x1#4
  | .full => 0x2#4
  | .cfgFail => 0xD#4
  | .halted => 0xE#4
  | .illegal => 0xF#4

/-- A response (R66). -/
structure Response where
  st : Status
  d0 : Data
  d1 : Data
deriving DecidableEq, Repr

/-- The input side of the ports (R35): what was presented and not yet taken, and what is to come. The instants go on for ever: first
those listed in `coming`, then those of the free value `Config.arrivals` (R49, R50, log entry 2). -/
structure Io where
  /-- The command word presented and not yet taken. -/
  cmd : Option CmdWord
  /-- The level of `cfg_ok_i`, the oracle of R2 (b), sampled by `CFG_*`. -/
  cfgOk : Bool
  /-- The event vector of the present instant, less the events already served (R68). -/
  evt : EvtVec
  /-- The level of `btn_i` at the present instant. -/
  btn : Bool
  /-- The next instants to come, first one first (the model's own, log entry 2). -/
  coming : List Instant
  /-- How many instants were taken from `Config.arrivals`, after those of `coming` (the model's own, log entry 2). -/
  later : Nat
  /-- How many draws of the order of arrivals were made (the model's own, log entry 4). -/
  draws : Nat
deriving DecidableEq, Repr

/-- The input ports when nothing was presented yet (log entries 2, 4, 5, 7). -/
def Io.quiet : Io where
  cmd := none
  cfgOk := true
  evt := 0
  btn := false
  coming := []
  later := 0
  draws := 0

/-- The machine: the configuration (R3), the block's state S, the response port (R66) and the input ports (R35). -/
structure State where
  /-- The configuration; no step writes it (R182). -/
  cfg : Cfg
  /-- The record S. -/
  blk : Block
  /-- The response port: the response of the step just taken, `none` where `rsp_valid = 0` (log entry 6). -/
  rsp : Option Response
  /-- The input ports. -/
  io : Io
deriving DecidableEq, Repr

/-- The machine of configuration `c` right after `@RESET`, nothing presented at its ports. -/
def State.resetIn (c : Cfg) : State where
  cfg := c
  blk := Block.reset c
  rsp := none
  io := Io.quiet

/-- The machine right after reset (R36), under the reference configuration (log entry 1). -/
def State.reset : State := State.resetIn Cfg.ref

end Sys2Proof.Machine
end

