-- ==== Sys2Proof/Machine/Flags.lean ====
section
/-! DEFINITION. The computed bits and packed words: `LAP_FULL`, `SW_STATUS` (R31), `TMR_MODE` (R32), the response bundle (R66). -/

namespace Sys2Proof.Machine

/-- A one-bit element as a bit vector (R6: 0 is false, 1 is true). -/
def bit (b : Bool) : BitVec 1 := BitVec.ofBool b

/-- `zext_32` (R6). -/
def zext32 {w : Nat} (v : BitVec w) : Data := v.setWidth 32

/-- Room is left in the lap table: `LAP_COUNT < LAP_N` (R100, R105). -/
def State.lapRoom (s : State) : Bool := decide (s.blk.lapCount.toNat < s.cfg.lapN)

/-- `LAP_FULL`: 1 exactly when `LAP_COUNT = LAP_N`, computed at the read (R31). -/
def State.lapFull (s : State) : Bool := decide (s.blk.lapCount.toNat = s.cfg.lapN)

/-- The word `SW_STATUS` (R31): bits 31:16 zero, 15:8 `LAP_COUNT`, 7:2 zero, bit 1 `LAP_FULL`, bit 0 `RUNNING`. -/
def State.swStatus (s : State) : Data :=
  0#16 ++ s.blk.lapCount ++ 0#6 ++ bit s.lapFull ++ bit s.blk.running

/-- The word `TMR_MODE` (R32): bit 31 `FAULT`, 30:5 zero, bit 4 `CH_EN`, 3:2 zero, 1:0 `MODE`. -/
def State.tmrMode (s : State) : Data :=
  bit s.blk.fault ++ 0#26 ++ bit s.blk.tmr.chEn ++ 0#2 ++ s.blk.tmr.mode.code

/-- The response as one 68-bit bundle, the status highest, then `d1`, then `d0` (R66). -/
def Response.bundle (r : Response) : BitVec 68 := r.st.code ++ r.d1 ++ r.d0

end Sys2Proof.Machine
end

