-- ==== Sys2Proof/Syntax.lean ====
section
/-! DEFINITION. The instructions: the ten host commands of R65 and the three events of R68, one constructor per row of the
opcode table. -/

namespace Sys2Proof

/-- One atomic step of an agent (R1, R44): a command of the Host, or an event of TickSource, ButtonEdge or Reset. -/
inductive Instr where
  /-- `NOP` (R82). -/
  | nop
  /-- `RD sel` (R83): read the status register with selector `sel`. -/
  | rd (sel : BitVec 8)
  /-- `TAKE_PRESS` (R84). -/
  | takePress
  /-- `SW_PRESS` (R100). -/
  | swPress
  /-- `SW_UPDATE` (R105). -/
  | swUpdate
  /-- `LAP_RD i` (R112). -/
  | lapRd (i : BitVec 8)
  /-- `FMT v` (R114): `v` in centiseconds. -/
  | fmt (v : Data)
  /-- `CFG_TICK` (R137). -/
  | cfgTick
  /-- `CFG_BLINK mv` (R140): `mv` in millivolts. -/
  | cfgBlink (mv : Data)
  /-- `CFG_DIM mv` (R143): `mv` in millivolts. -/
  | cfgDim (mv : Data)
  /-- `@TICK` (R80). -/
  | tick
  /-- `@EDGE` (R81). -/
  | edge
  /-- `@RESET` (R180). -/
  | reset
deriving DecidableEq, Repr

end Sys2Proof
end

