-- ==== Sys2Proof/Machine/Ops.lean ====
section
/-! DEFINITION. The shared operations: answering (R66), the halted check (R69), the writes of the block's elements, the arithmetic
of the shared timer (R132, R133, R139, R141), the common configuration step (R136), taking `CfgFail` (R161) and its only way out,
the reset (R180). -/

namespace Sys2Proof.Machine

/-- `respond(st, d0, d1)` (R66). DESIGN CHOICE (log entry 13): so also for a command at the instant of a reset, whose answer R181
leaves open. -/
def State.respond (s : State) (st : Status) (d0 d1 : Data) : State := { s with rsp := some ⟨st, d0, d1⟩ }

/-- The end of an event step: an event has no response (R68, log entry 6). -/
def State.silent (s : State) : State := { s with rsp := none }

/-- Writes the block's state. -/
def State.setBlk (s : State) (b : Block) : State := { s with blk := b }

/-- Drives the level of `cfg_ok_i` (R2 b). -/
def State.setCfgOk (s : State) (v : Bool) : State := { s with io := { s.io with cfgOk := v } }

/-- Case (1) of R69: while `FAULT = 1` a command is answered HALTED and changes nothing (R163); else its rule applies. -/
def State.command (s : State) (rule : Host.Outcome State Fault Refusal) : Host.Outcome State Fault Refusal :=
  if s.blk.fault then .next (s.respond .halted 0 0) else rule

/-- Cases (1) and (2) of R69 for a reserved word: HALTED, else ILLEGAL; nothing changes (R70). -/
def execReserved (s : State) : Host.Outcome State Fault Refusal :=
  s.command (.next (s.respond .illegal 0 0))

/-- `TICKS +_W 1` (R80). -/
def Block.countTick (b : Block) : Block := { b with ticks := b.ticks + 1 }

/-- Writes `PRESS` (R81, R84, R100). -/
def Block.setPress (b : Block) (p : Bool) : Block := { b with press := p }

/-- Row 1 of the transition table, Stopped to Running (R100, R102). -/
def Block.startRun (b : Block) (c : Cfg) (now : Tick) : Block :=
  { b with
    running := true
    startTick := now
    lapStart := now
    lapCount := 0
    laps := List.replicate c.lapN 0 }

/-- Row 2 of the transition table: record a lap of `dur` ticks that ended at `now` (R100). -/
def Block.recordLap (b : Block) (now dur : Tick) : Block :=
  { b with
    laps := b.laps.set b.lapCount.toNat dur
    lapStart := now
    lapCount := b.lapCount + 1 }

/-- Writes all seven shared-timer elements (R134, R136). -/
def Block.setTimer (b : Block) (t : SharedTimer) : Block := { b with tmr := t }

/-- The writes of `CfgFail` (R161): the fault latched, the shared timer idle. -/
def Block.latchFault (b : Block) : Block := { b with fault := true, tmr := SharedTimer.idle }

/-- Time since `LAP_START` (R103, R105). -/
def Block.lapElapsed (b : Block) : Tick := b.ticks - b.lapStart

/-- Time since `START_TICK` (R105). -/
def Block.totalElapsed (b : Block) : Tick := b.ticks - b.startTick

/-- `blink_mhz(mv)` (R132): multiply, floor-divide, add, on naturals. -/
def blinkMhz (c : Cfg) (mv : Nat) : Nat := Config.blinkMinMhz + mv * Config.blinkSpanMhz / c.vrefMv

/-- `duty_pct(mv)` (R133). -/
def dutyPct (c : Cfg) (mv : Nat) : Nat := mv * 100 / c.vrefMv

/-- The base prescaler (R137, R141). -/
def basePrescaler (c : Cfg) : Nat := c.fInHz / c.cntHz

/-- The period of the tick mode (R137). -/
def tickPeriod (c : Cfg) : Nat := c.cntHz / Config.tickHz

/-- `blink_psc(f)` (R139). -/
def blinkPsc (c : Cfg) (f : Nat) : Nat := c.fInHz * 1000 / (f * c.blinkPeriod)

/-- The period of the dimming carrier (R141). -/
def dimPeriod (c : Cfg) : Nat := c.cntHz / Config.carrierHz

/-- `dim_pulse(d)` (R141). -/
def dimPulse (c : Cfg) (d : Nat) : Nat := d * dimPeriod c / 100

/-- The values `CFG_TICK` writes (R137). -/
def SharedTimer.forTick (c : Cfg) : SharedTimer where
  mode := .tick
  prescaler := BitVec.ofNat 16 (basePrescaler c)
  period := BitVec.ofNat 16 (tickPeriod c)
  pulse := 0
  chEn := false
  freqMhz := 0
  dutyPct := 0

/-- The values `CFG_BLINK mv` writes (R140). -/
def SharedTimer.forBlink (c : Cfg) (mv : Nat) : SharedTimer where
  mode := .blink
  prescaler := BitVec.ofNat 16 (blinkPsc c (blinkMhz c mv))
  period := BitVec.ofNat 16 c.blinkPeriod
  pulse := BitVec.ofNat 16 (c.blinkPeriod / 2)
  chEn := true
  freqMhz := BitVec.ofNat 16 (blinkMhz c mv)
  dutyPct := 0

/-- The values `CFG_DIM mv` writes (R143). -/
def SharedTimer.forDim (c : Cfg) (mv : Nat) : SharedTimer where
  mode := .dim
  prescaler := BitVec.ofNat 16 (basePrescaler c)
  period := BitVec.ofNat 16 (dimPeriod c)
  pulse := BitVec.ofNat 16 (dimPulse c (Sys2Proof.Machine.dutyPct c mv))
  chEn := true
  freqMhz := 0
  dutyPct := BitVec.ofNat 8 (Sys2Proof.Machine.dutyPct c mv)

/-- `raise CfgFail` (R161): the block's one exception. It saves no state and transfers no control (R168): it latches `FAULT`,
idles the shared timer and answers CFGFAIL. -/
def State.raiseCfgFail (s : State) : State := (s.setBlk s.blk.latchFault).respond .cfgFail 0 0

/-- The common configuration step (R136): the oracle `cfg_ok` decides between all seven writes with the answer `(OK, d0, 0)` and
`CfgFail`. -/
def State.configure (s : State) (t : SharedTimer) (d0 : Data) : Host.Outcome State Fault Refusal :=
  if s.io.cfgOk then .next ((s.setBlk (s.blk.setTimer t)).respond .ok d0 0) else .next s.raiseCfgFail

/-- The check of R135 before a configuration from a reading: above `VREF_MV` the step has no meaning. -/
def State.configureReading (s : State) (mv : Data) (t : SharedTimer) (d0 : Data) :
    Host.Outcome State Fault Refusal :=
  if s.cfg.vrefMv < mv.toNat then .refused (.readingAboveVref mv) else s.configure t d0

/-- S at its reset values (R180, R36): the only way out of a latched fault (R168). The configuration is a constant (R182), the
input ports are not part of S (log entry 7). -/
def State.resetBlock (s : State) : State := s.setBlk (Block.reset s.cfg)

end Sys2Proof.Machine
end

