-- ==== Sys2Proof/Machine/Arbiter.lean ====
section
/-! DEFINITION. The family of 42_timer_arbiter.md: `CFG_TICK`, `CFG_BLINK`, `CFG_DIM`. -/

namespace Sys2Proof.Machine

/-- `CFG_TICK` (R137). -/
def execCfgTick (s : State) : Host.Outcome State Fault Refusal :=
  s.command (s.configure (SharedTimer.forTick s.cfg) 0)

/-- `CFG_BLINK mv` (R140): answers the frequency in millihertz. -/
def execCfgBlink (mv : Data) (s : State) : Host.Outcome State Fault Refusal :=
  s.command (s.configureReading mv (SharedTimer.forBlink s.cfg mv.toNat)
    (BitVec.ofNat 32 (blinkMhz s.cfg mv.toNat)))

/-- `CFG_DIM mv` (R143): answers the duty in percent. -/
def execCfgDim (mv : Data) (s : State) : Host.Outcome State Fault Refusal :=
  s.command (s.configureReading mv (SharedTimer.forDim s.cfg mv.toNat)
    (BitVec.ofNat 32 (dutyPct s.cfg mv.toNat)))

end Sys2Proof.Machine
end

