-- ==== Sys2Proof/Machine/PowerCycle.lean ====
section
/-! DEFINITION. The family of 70_reset_and_hazards.md: `@RESET`. -/

namespace Sys2Proof.Machine

/-- `@RESET` (R180): every element of S to its reset value, in every state; no response (R181). -/
def execReset (s : State) : Host.Outcome State Fault Refusal := .next s.resetBlock.silent

end Sys2Proof.Machine
end

