-- ==== Sys2Proof/Machine/Operands.lean ====
section
/-! DEFINITION. The two read-only index spaces a command's operand selects from (R40): status registers (R30) and laps (R112). -/

namespace Sys2Proof.Machine

/-- The ten status registers (R30). -/
inductive StatusReg where
  | ticks | swStatus | startTick | lapStart | tmrMode | prescaler | period | pulse | freqMhz | dutyPct
deriving DecidableEq, Repr

/-- The status register a selector names; `none` for a reserved selector (R30, R70 d). -/
def statusRegOf (sel : BitVec 8) : Option StatusReg :=
  if sel = 0x00#8 then some .ticks
  else if sel = 0x01#8 then some .swStatus
  else if sel = 0x02#8 then some .startTick
  else if sel = 0x03#8 then some .lapStart
  else if sel = 0x04#8 then some .tmrMode
  else if sel = 0x05#8 then some .prescaler
  else if sel = 0x06#8 then some .period
  else if sel = 0x07#8 then some .pulse
  else if sel = 0x08#8 then some .freqMhz
  else if sel = 0x09#8 then some .dutyPct
  else none

/-- `SR[sel]` (R30): the value a read of the status register returns. -/
def State.readStatus (s : State) : StatusReg → Data
  | .ticks => s.blk.ticks
  | .swStatus => s.swStatus
  | .startTick => s.blk.startTick
  | .lapStart => s.blk.lapStart
  | .tmrMode => s.tmrMode
  | .prescaler => zext32 s.blk.tmr.prescaler
  | .period => zext32 s.blk.tmr.period
  | .pulse => zext32 s.blk.tmr.pulse
  | .freqMhz => zext32 s.blk.tmr.freqMhz
  | .dutyPct => zext32 s.blk.tmr.dutyPct

/-- `LAP[i]` (R17). An index outside the table, which no rule reads, gives 0 (log entry 9). -/
def Block.lap (b : Block) (i : Nat) : Tick := b.laps.getD i 0

end Sys2Proof.Machine
end

