-- ==== Sys2Proof/Machine/Stopwatch.lean ====
section
/-! DEFINITION. The family of 41_stopwatch.md: `SW_PRESS`, `SW_UPDATE`, `LAP_RD`, `FMT`. -/

namespace Sys2Proof.Machine

/-- The transition of R100 once a press was taken: row 1, row 2 or row 3 of the transition table, `now` being `TICKS` (R101). -/
def State.pressTransition (s : State) : State :=
  let now := s.blk.ticks
  let b := s.blk.setPress false
  if !s.blk.running then (s.setBlk (b.startRun s.cfg now)).respond .ok 1 now
  else if s.lapRoom then (s.setBlk (b.recordLap now s.blk.lapElapsed)).respond .ok 2 s.blk.lapElapsed
  else (s.setBlk b).respond .full 0 0

/-- `SW_PRESS` (R100): take a pending press and apply the stopwatch transition; no press, nothing else changes. -/
def execSwPress (s : State) : Host.Outcome State Fault Refusal :=
  s.command (.next
    (if s.blk.press then s.pressTransition else (s.setBlk (s.blk.setPress false)).respond .empty 0 0))

/-- The answer of `SW_UPDATE` (R105). -/
def State.updateAnswer (s : State) : State :=
  if !s.blk.running then s.respond .empty 0 0
  else if s.lapRoom then s.respond .ok s.blk.totalElapsed s.blk.lapElapsed
  else s.respond .full s.blk.totalElapsed 0

/-- `SW_UPDATE` (R105): it writes no state of the block. -/
def execSwUpdate (s : State) : Host.Outcome State Fault Refusal := s.command (.next s.updateAnswer)

/-- `LAP_RD i` (R112): the EMPTY branch returns 0 by gating, without reading the table. -/
def execLapRd (i : BitVec 8) (s : State) : Host.Outcome State Fault Refusal :=
  s.command (.next
    (if i.toNat < s.blk.lapCount.toNat then s.respond .ok (s.blk.lap i.toNat) 0 else s.respond .empty 0 0))

/-- Minutes of a centisecond value (R114). -/
def minutesOf (v : Nat) : Nat := v / 6000

/-- Seconds of a centisecond value (R114). -/
def secondsOf (v : Nat) : Nat := v % 6000 / 100

/-- Hundredths of a centisecond value (R114). -/
def hundredthsOf (v : Nat) : Nat := v % 100

/-- The word `d0` of `FMT` (R114): 16 zero bits, the seconds, the hundredths. -/
def fmtWord (v : Nat) : Data := 0#16 ++ BitVec.ofNat 8 (secondsOf v) ++ BitVec.ofNat 8 (hundredthsOf v)

/-- `FMT v` (R114). -/
def execFmt (v : Data) (s : State) : Host.Outcome State Fault Refusal :=
  s.command (.next (s.respond .ok (fmtWord v.toNat) (BitVec.ofNat 32 (minutesOf v.toNat))))

end Sys2Proof.Machine
end

