-- ==== Sys2Proof/Machine/TickPress.lean ====
section
/-! DEFINITION. The family of 40_tick_and_press.md: `@TICK`, `@EDGE`, `NOP`, `RD`, `TAKE_PRESS`. -/

namespace Sys2Proof.Machine

/-- `@TICK` (R80): in every state, whatever `FAULT`, `RUNNING` and `MODE`. -/
def execTick (s : State) : Host.Outcome State Fault Refusal := .next (s.setBlk s.blk.countTick).silent

/-- `@EDGE` (R81): in every state. -/
def execEdge (s : State) : Host.Outcome State Fault Refusal := .next (s.setBlk (s.blk.setPress true)).silent

/-- `NOP` (R82). -/
def execNop (s : State) : Host.Outcome State Fault Refusal := s.command (.next (s.respond .ok 0 0))

/-- `RD sel` (R83). A reserved selector, which no word decodes to, is answered as R70 (d) says (log entry 10). -/
def execRd (sel : BitVec 8) (s : State) : Host.Outcome State Fault Refusal :=
  match statusRegOf sel with
  | some r => s.command (.next (s.respond .ok (s.readStatus r) 0))
  | none => execReserved s

/-- `TAKE_PRESS` (R84): read and clear `PRESS` in one step. -/
def execTakePress (s : State) : Host.Outcome State Fault Refusal :=
  s.command (.next ((s.setBlk (s.blk.setPress false)).respond .ok (zext32 (bit s.blk.press)) 0))

end Sys2Proof.Machine
end

