-- ==== Sys2Proof/Machine/Dispatch.lean ====
section
/-! DEFINITION. One arm per instruction: each calls its meaning. -/

namespace Sys2Proof.Machine

def exec (i : Instr) (s : State) : Host.Outcome State Fault Refusal :=
  match i with
  | .nop => Sys2Proof.Machine.execNop s
  | .rd sel => Sys2Proof.Machine.execRd sel s
  | .takePress => Sys2Proof.Machine.execTakePress s
  | .swPress => Sys2Proof.Machine.execSwPress s
  | .swUpdate => Sys2Proof.Machine.execSwUpdate s
  | .lapRd idx => Sys2Proof.Machine.execLapRd idx s
  | .fmt v => Sys2Proof.Machine.execFmt v s
  | .cfgTick => Sys2Proof.Machine.execCfgTick s
  | .cfgBlink mv => Sys2Proof.Machine.execCfgBlink mv s
  | .cfgDim mv => Sys2Proof.Machine.execCfgDim mv s
  | .tick => Sys2Proof.Machine.execTick s
  | .edge => Sys2Proof.Machine.execEdge s
  | .reset => Sys2Proof.Machine.execReset s

end Sys2Proof.Machine
end

