-- ==== Sys2Proof/WellFormed.lean ====
section
/-! DEFINITION. Which instructions have an encoding: all but `RD` of a reserved selector (R70 d). The configuration's own
well-formedness (R3) is `Params.WellFormed` in Config.lean. -/

namespace Sys2Proof

/-- The selectors of R30 are `0x00` to `0x09`. -/
def selectorAssigned (sel : BitVec 8) : Bool := decide (sel.toNat ≤ 9)

/-- The instruction is a legal encoding: every operand is in the range R65 and R70 give it. -/
def Instr.wellFormed : Instr → Bool
  | .rd sel => selectorAssigned sel
  | .nop | .takePress | .swPress | .swUpdate | .lapRd _ | .fmt _ | .cfgTick | .cfgBlink _ | .cfgDim _
  | .tick | .edge | .reset => true

end Sys2Proof
end

