-- ==== Sys2Proof/Decode.lean ====
section
/-! DEFINITION. Decoding a command word or an event pin to an instruction, total and rejecting by name (R60 to R71), the encoder,
and the host's numbering of the opcode table. -/

namespace Sys2Proof

/-- The three event inputs (R35, R68). -/
inductive EventPin where
  | tick | edge | rst
deriving DecidableEq, Repr

/-- What one agent presents at the input ports for one step: a command word (R60), or one event (R68). -/
inductive PortWord where
  | command (w : CmdWord)
  | event (e : EventPin)
deriving DecidableEq, Repr

/-- Why a word is no instruction. The first four are R70 (a) to (d); the last two are about an event vector as a whole (R68). -/
inductive DecodeError where
  | unassignedOpcode (op : BitVec 8)
  | argumentNotZero (op : BitVec 8)
  | argumentHighBitsNotZero (op : BitVec 8)
  | reservedSelector (sel : BitVec 8)
  | noEvent
  | severalEvents (v : EvtVec)
deriving DecidableEq, Repr

/-- `op = cmd[39:32]` (R60). -/
def opOf (w : CmdWord) : BitVec 8 := w.extractLsb' 32 8

/-- `arg = cmd[31:0]` (R60), the operand `v` of format V (R63). -/
def argOf (w : CmdWord) : Data := w.extractLsb' 0 32

/-- `arg[7:0]`, the operand `s` of format S (R62). -/
def lowOf (arg : Data) : BitVec 8 := arg.extractLsb' 0 8

/-- `arg[31:8]`, which format S requires to be zero (R62). -/
def highOf (arg : Data) : BitVec 24 := arg.extractLsb' 8 24

/-- Format Z (R61): no operand. -/
def formatZ (op : BitVec 8) (arg : Data) (i : Instr) : Except DecodeError Instr :=
  if arg = 0#32 then .ok i else .error (.argumentNotZero op)

/-- Format S (R62): an 8-bit operand. -/
def formatS (op : BitVec 8) (arg : Data) (k : BitVec 8 → Except DecodeError Instr) : Except DecodeError Instr :=
  if highOf arg = 0#24 then k (lowOf arg) else .error (.argumentHighBitsNotZero op)

/-- `RD` takes an assigned selector only (R70 d). -/
def decodeSelector (sel : BitVec 8) : Except DecodeError Instr :=
  if selectorAssigned sel then .ok (.rd sel) else .error (.reservedSelector sel)

/-- The decoder of a command word by its opcode and argument (R65, R70). -/
def decodeFields (op : BitVec 8) (arg : Data) : Except DecodeError Instr :=
  if op = 0x00#8 then formatZ op arg .nop
  else if op = 0x01#8 then formatS op arg decodeSelector
  else if op = 0x02#8 then formatZ op arg .takePress
  else if op = 0x10#8 then formatZ op arg .swPress
  else if op = 0x11#8 then formatZ op arg .swUpdate
  else if op = 0x12#8 then formatS op arg (fun i => .ok (.lapRd i))
  else if op = 0x13#8 then .ok (.fmt arg)
  else if op = 0x20#8 then formatZ op arg .cfgTick
  else if op = 0x21#8 then .ok (.cfgBlink arg)
  else if op = 0x22#8 then .ok (.cfgDim arg)
  else .error (.unassignedOpcode op)

/-- The decoder of a 40-bit command word (R60, R65, R70). -/
def decodeCommand (w : CmdWord) : Except DecodeError Instr := decodeFields (opOf w) (argOf w)

/-- The instruction of one event (R68). -/
def EventPin.instr : EventPin → Instr
  | .tick => .tick
  | .edge => .edge
  | .rst => .reset

/-- The bit of the event vector that one event sets (R68). -/
def EventPin.bit : EventPin → EvtVec
  | .tick => 1#3
  | .edge => 2#3
  | .rst => 4#3

/-- The decoder of what stands at the ports. -/
def decode : PortWord → Except DecodeError Instr
  | .command w => decodeCommand w
  | .event e => .ok e.instr

/-- The decoder of an event vector: exactly one set bit is one event; several set bits are several events, each a step of its
own (R68, R51), and no single instruction. -/
def decodeEvent (v : EvtVec) : Except DecodeError Instr :=
  if v = 0#3 then .error .noEvent
  else if v = EventPin.tick.bit then .ok .tick
  else if v = EventPin.edge.bit then .ok .edge
  else if v = EventPin.rst.bit then .ok .reset
  else .error (.severalEvents v)

/-- A command word from its opcode and argument (R60). -/
def commandWord (op : BitVec 8) (arg : Data) : CmdWord := op ++ arg

/-- A command word of format S (R62). -/
def commandWordS (op s : BitVec 8) : CmdWord := commandWord op (s.setWidth 32)

/-- The encoder, from R65's opcode map and R68's pins. -/
def encode : Instr → PortWord
  | .nop => .command (commandWord 0x00#8 0#32)
  | .rd sel => .command (commandWordS 0x01#8 sel)
  | .takePress => .command (commandWord 0x02#8 0#32)
  | .swPress => .command (commandWord 0x10#8 0#32)
  | .swUpdate => .command (commandWord 0x11#8 0#32)
  | .lapRd i => .command (commandWordS 0x12#8 i)
  | .fmt v => .command (commandWord 0x13#8 v)
  | .cfgTick => .command (commandWord 0x20#8 0#32)
  | .cfgBlink mv => .command (commandWord 0x21#8 mv)
  | .cfgDim mv => .command (commandWord 0x22#8 mv)
  | .tick => .event .tick
  | .edge => .event .edge
  | .reset => .event .rst

/-- The `match` column of R65 for a command's row. -/
def rowMatch : Instr → Option CmdWord
  | .nop => some 0x0000000000#40
  | .rd _ => some 0x0100000000#40
  | .takePress => some 0x0200000000#40
  | .swPress => some 0x1000000000#40
  | .swUpdate => some 0x1100000000#40
  | .lapRd _ => some 0x1200000000#40
  | .fmt _ => some 0x1300000000#40
  | .cfgTick => some 0x2000000000#40
  | .cfgBlink _ => some 0x2100000000#40
  | .cfgDim _ => some 0x2200000000#40
  | .tick | .edge | .reset => none

/-- The `mask` column of R65 for a command's row: all bits for format Z, all but `arg[7:0]` for S, the opcode for V. -/
def rowMask : Instr → CmdWord
  | .rd _ | .lapRd _ => 0xFFFFFFFF00#40
  | .fmt _ | .cfgBlink _ | .cfgDim _ => 0xFF00000000#40
  | .nop | .takePress | .swPress | .swUpdate | .cfgTick | .tick | .edge | .reset => 0xFFFFFFFFFF#40

/-- The instruction read from bits numbered as spec/opcode_table.json numbers them: up to 8 bits are an event vector (the table
gives events 3 bits), up to 40 bits a command word. -/
def decodeTableWord (nbits w : Nat) : Option Instr :=
  if nbits ≤ 8 then
    if w < 8 then (decodeEvent (BitVec.ofNat 3 w)).toOption else none
  else if nbits ≤ 40 then
    if w < 2 ^ 40 then (decodeCommand (BitVec.ofNat 40 w)).toOption else none
  else none

end Sys2Proof
end

