-- ==== Sys2Proof/Machine/Fetch.lean ====
section
/-! DEFINITION. Which arrival at the input ports the next step serves: the events of an instant from its port levels (R35, R68),
the serialisation of simultaneous arrivals in a free order, a reset last (R51, R181). -/

namespace Sys2Proof.Machine

/-- The event vector of an instant (R68): a pulse on `tick_i`, a rising edge on `btn_i` from the level `was`, an assertion of
`rst_i`. A falling edge or a steady level is no event. -/
def Instant.events (t : Instant) (was : Bool) : EvtVec :=
  BitVec.ofBool t.rst ++ BitVec.ofBool (!was && t.btn) ++ BitVec.ofBool t.tick

/-- The event `e` waits. -/
def Io.waits (p : Io) (e : EventPin) : Bool := p.evt &&& e.bit != 0#3

/-- The arrivals of the present instant that may be served next, a reset aside (R51). -/
def Io.unordered (p : Io) : List PortWord :=
  (if p.waits .tick then [.event .tick] else []) ++ (if p.waits .edge then [.event .edge] else []) ++
    (p.cmd.map PortWord.command).toList

/-- All arrivals of the present instant that may be served next: a reset only when nothing else waits (R181). DESIGN CHOICE (log
entry 13): a command of the instant of a reset is served before it and answered by its own rule, an answer that R181 says the Host may
not rely on. -/
def Io.ready (p : Io) : List PortWord :=
  if p.unordered.isEmpty then (if p.waits .rst then [.event .rst] else []) else p.unordered

/-- Nothing waits at the ports. -/
def Io.idle (p : Io) : Bool := p.ready.isEmpty

/-- The levels of the instant `t` come to stand at the ports. -/
def Io.show (p : Io) (t : Instant) : Io :=
  { p with cmd := t.cmd, cfgOk := t.cfgOk, evt := t.events p.btn, btn := t.btn }

/-- The next instant's levels come to stand at the ports: the next one listed, and after those the next one of the free arrivals, so
that the agents may act for ever (R49, R50, log entry 2). -/
def Io.present (p : Io) : Io :=
  match p.coming with
  | t :: rest => { p.show t with coming := rest }
  | [] => { p.show (Config.arrivals p.later) with later := p.later + 1 }

/-- The arrival `w` was taken. -/
def Io.taken (p : Io) : PortWord → Io
  | .command _ => { p with cmd := none }
  | .event e => { p with evt := p.evt &&& ~~~e.bit }

/-- Which of the ready arrivals is served: the only one, or the one the free value names (R51, log entry 4). -/
def Io.choice (p : Io) : Nat :=
  if p.ready.length ≤ 1 then 0 else Config.arrivalOrder p.draws % p.ready.length

/-- A draw of the order was made where more than one arrival waited. -/
def Io.drawn (p : Io) : Io := if p.ready.length ≤ 1 then p else { p with draws := p.draws + 1 }

/-- Serves one of the arrivals that wait. -/
def Io.serve (p : Io) : Option PortWord × Io :=
  match p.ready[p.choice]? with
  | some w => (some w, p.drawn.taken w)
  | none => (none, p)

/-- The arrival the next step serves, and the ports after it: one that waits, else one of the next instant, else none. -/
def Io.fetch (p : Io) : Option PortWord × Io := if p.idle then p.present.serve else p.serve

/-- The ports with one word standing at them alone. -/
def Io.hold (p : Io) : PortWord → Io
  | .command w => { p with cmd := some w, evt := 0 }
  | .event e => { p with cmd := none, evt := e.bit }

end Sys2Proof.Machine
end

