-- ==== Sys2Proof/Machine/Step.lean ====
section
/-! DEFINITION. One step of the machine: one arrival at the ports is served (R44, R49), decoded in the order of R69. -/

namespace Sys2Proof.Machine

/-- A word at the ports is decoded and executed; a reserved command word is answered as R69 (1) and (2) say. -/
def serveWord (w : PortWord) (s : State) : Host.Outcome State Fault Refusal :=
  match decode w with
  | .ok i => exec i s
  | .error _ => execReserved s

/-- The state with the ports after a fetch. -/
def State.setIo (s : State) (p : Io) : State := { s with io := p }

/-- One step. Where nothing arrives the block waits (R11): nothing changes but the ports, and no response is valid. -/
def step (s : State) : Host.Outcome State Fault Refusal :=
  match s.io.fetch with
  | (some w, p) => serveWord w (s.setIo p)
  | (none, p) => .next { s.setIo p with rsp := none }

/-- The opcode table's word stands at the ports alone: an event vector for a row of up to 8 bits, a command word else. -/
def State.withFetchWord (s : State) (nbits w : Nat) : State :=
  if nbits ≤ 8 then s.setIo { s.io with cmd := none, evt := BitVec.ofNat 3 w }
  else s.setIo (s.io.hold (.command (BitVec.ofNat 40 w)))

end Sys2Proof.Machine
end

