-- ==== Sys2Proof/Machine/HostView.lean ====
section
/-! DEFINITION. What the outside sees and does with the block's state: the document's `PwmMode` (R28), the output ports (R35), and
the Host's duties beside the block (R113, R115, R117, R118, R131). No instruction reads anything of this file. -/

namespace Sys2Proof.Machine

/-- The document's `PwmMode` (R28). -/
inductive PwmMode where
  | idle
  | blinkFrequency (mHz : BitVec 16)
  | dimming (percent : BitVec 8)
deriving DecidableEq, Repr

/-- `pwm_mode(S)` (R28). -/
def SharedTimer.pwmMode (t : SharedTimer) : PwmMode :=
  match t.mode with
  | .idle => .idle
  | .tick => .idle
  | .blink => .blinkFrequency t.freqMhz
  | .dim => .dimming t.dutyPct

/-- The output ports (R35). -/
structure Outputs where
  rspValid : Bool
  rspSt : BitVec 4
  rspD0 : Data
  rspD1 : Data
  pwmEn : Bool
  tmrMode : BitVec 2
  tmrPsc : TmrWord
  tmrPer : TmrWord
  tmrPulse : TmrWord
  fault : Bool
deriving DecidableEq, Repr

/-- What stands at the output ports (R35). While `rsp_valid = 0` the response words mean nothing and are shown as 0 (DESIGN CHOICE, log entry 6). -/
def State.outputs (s : State) : Outputs where
  rspValid := s.rsp.isSome
  rspSt := (s.rsp.map (fun r => r.st.code)).getD 0
  rspD0 := (s.rsp.map (fun r => r.d0)).getD 0
  rspD1 := (s.rsp.map (fun r => r.d1)).getD 0
  pwmEn := s.blk.tmr.chEn
  tmrMode := s.blk.tmr.mode.code
  tmrPsc := s.blk.tmr.prescaler
  tmrPer := s.blk.tmr.period
  tmrPulse := s.blk.tmr.pulse
  fault := s.blk.fault

/-- Ticks to centiseconds (R113), which the Host applies before `FMT`. -/
def centisOfTicks (c : Cfg) (d : Tick) : Nat := d.toNat / c.tickCentiDiv

/-- Two decimal digits with a leading zero (R115). -/
def twoDigits (n : Nat) : List Char := [Nat.digitChar (n / 10), Nat.digitChar (n % 10)]

/-- The text form MM:SS.CC (R115); none from one hundred minutes on, where the source defines no text (U3). -/
def timeText (v : Nat) : Option (List Char) :=
  if v < 600000 then
    some (twoDigits (minutesOf v) ++ [':'] ++ twoDigits (secondsOf v) ++ ['.'] ++ twoDigits (hundredthsOf v))
  else none

/-- The status banner (R117). PRESUMED: which text belongs to which state (log entry 11). -/
def bannerText (running : Bool) : String := if running then "Chrono läuft" else "Chrono Ready"

/-- The vertical offset of the line of lap `i` (R118). -/
def lapRowY (i : Nat) : Nat := 30 + i * 20

/-- The potentiometer collaborator's contract (R131): a reading in `[0, VREF_MV]`, and 0 for an invalid channel. -/
def readingKept (c : Cfg) (channel mv : Nat) : Bool :=
  decide (mv ≤ c.vrefMv) && (decide (channel < Config.potChannels) || mv == 0)

end Sys2Proof.Machine
end

