-- ==== Sys2Proof/Machine/Trace.lean ====
section
/-! DEFINITION. Executions as sequences of steps, finite and infinite (R49), the trace notation and its pseudo-operations (R72, R73),
and the instants on the input ports that present a sequence (R35). -/

namespace Sys2Proof.Machine

/-- Instructions executed one after the other at the present level of `cfg_ok_i`; it ends at the first refused step (R194). With the
same draw at every step this is `runTrace`. -/
def runInstrs : List Instr → State → Host.Outcome State Fault Refusal
  | [], s => .next s
  | i :: later, s =>
    match exec i s with
    | .next t => runInstrs later t
    | .fault f => .fault f
    | .refused r => .refused r

/-- The agents present further instants, after those already to come (R50). -/
def State.offer (s : State) (ts : List Instant) : State := { s with io := { s.io with coming := s.io.coming ++ ts } }

/-- One line of a trace (R72): a step, the draw of `cfg_ok` (`!fail` says 0), and the expected response where it is given. -/
structure TraceStep where
  instr : Instr
  cfgOk : Bool := true
  expected : Option Response := none
deriving DecidableEq, Repr

/-- A line of a trace may be a pseudo-operation (R73). -/
inductive TraceLine where
  | step (t : TraceStep)
  | curTicks
  | swPass
  | ticks (n : Nat)
  | pressAt
deriving DecidableEq, Repr

/-- The expansion of a line (R73). -/
def TraceLine.expand : TraceLine → List TraceStep
  | .step t => [t]
  | .curTicks => [{ instr := .rd 0x00#8 }]
  | .swPass => [{ instr := .swPress }, { instr := .swUpdate }]
  | .ticks n => List.replicate n { instr := .tick }
  | .pressAt => [{ instr := .edge }, { instr := .swPress }]

/-- One line executed: the draw stands at `cfg_ok_i` when the step samples it. -/
def TraceStep.run (t : TraceStep) (s : State) : Host.Outcome State Fault Refusal := exec t.instr (s.setCfgOk t.cfgOk)

/-- A finite execution (R49): the steps applied one after the other, each with its own draw of `cfg_ok` (R162); it ends at the first
refused step (R194). -/
def runTrace : List TraceStep → State → Host.Outcome State Fault Refusal
  | [], s => .next s
  | t :: later, s =>
    match t.run s with
    | .next u => runTrace later u
    | .fault f => .fault f
    | .refused r => .refused r

/-- An infinite execution (R49): the steps `ts 0, ts 1, …`, each with its own draw (R162), take the machine through the states
`states 0, states 1, …`. -/
def Executes (ts : Nat → TraceStep) (states : Nat → State) : Prop := ∀ n, (ts n).run (states n) = .next (states (n + 1))

/-- The response of the step is the expected one, where one is given. -/
def TraceStep.met (t : TraceStep) (s : State) : Bool :=
  match t.expected with
  | none => true
  | some r => s.rsp == some r

/-- The steps presented on the ports one instant each (R35, R68): an edge is a low level followed by a high one. -/
def instantsOf (cfgOk : Bool) (i : Instr) : List Instant :=
  match encode i with
  | .command w => [⟨some w, cfgOk, false, false, false⟩]
  | .event .tick => [⟨none, cfgOk, true, false, false⟩]
  | .event .edge => [⟨none, cfgOk, false, false, false⟩, ⟨none, cfgOk, false, true, false⟩]
  | .event .rst => [⟨none, cfgOk, false, false, true⟩]

/-- The instants that present one step with its draw. -/
def TraceStep.instants (t : TraceStep) : List Instant := instantsOf t.cfgOk t.instr

end Sys2Proof.Machine
end

