-- ==== Sys2Proof/Safety.lean ====
section
/-! DEFINITION. What a successful run is (R194), the invariants the spec states (R19, R29, R109), and the measures its properties
count with (R87, R108). -/

namespace Sys2Proof.Machine

/-- A step answered CFGFAIL or HALTED has gone wrong (R194). -/
def State.goneWrong (s : State) : Bool :=
  match s.rsp with
  | none => false
  | some r => r.st == .cfgFail || r.st == .halted

/-- A successful run (R194): no step refused, none answered CFGFAIL or HALTED, and `FAULT = 0` at its end. -/
def successful : List TraceStep → State → Bool
  | [], s => !s.blk.fault
  | t :: later, s =>
    match t.run s with
    | .next u => !u.goneWrong && successful later u
    | .fault _ => false
    | .refused _ => false

/-- Every response of the run is the expected one, where the trace gives one (R72). -/
def conforms : List TraceStep → State → Bool
  | [], _ => true
  | t :: later, s =>
    match t.run s with
    | .next u => t.met u && conforms later u
    | .fault _ => false
    | .refused _ => false

/-- The stopwatch invariants of R17, R18 and R19 (a), (b), (d). -/
structure Block.LapTableOk (b : Block) (c : Cfg) : Prop where
  /-- There are `LAP_N` lap registers (R17). -/
  size : b.laps.length = c.lapN
  /-- R19 (a). -/
  count : b.lapCount.toNat ≤ c.lapN
  /-- R19 (b). -/
  stopped : b.running = false → b.lapCount = 0
  /-- R19 (d). -/
  unrecorded : ∀ i, b.lapCount.toNat ≤ i → b.lap i = 0

/-- While running, the recorded laps tile the time from the start to the running lap's start (R109). -/
def Block.LapsTile (b : Block) : Prop := b.running = true → b.laps.sum = b.lapStart - b.startTick

/-- The shared-timer table of R29 with the register widths of R21 to R26, `mv` being a reading in range. -/
def SharedTimer.Consistent (t : SharedTimer) (c : Cfg) : Prop :=
  match t.mode with
  | .idle =>
    t.prescaler.toNat = 0 ∧ t.period.toNat = 0 ∧ t.pulse.toNat = 0 ∧ t.chEn = false ∧ t.freqMhz.toNat = 0 ∧
      t.dutyPct.toNat = 0
  | .tick =>
    t.prescaler.toNat = c.fInHz / c.cntHz ∧ t.period.toNat = c.cntHz / 100 ∧ t.pulse.toNat = 0 ∧ t.chEn = false ∧
      t.freqMhz.toNat = 0 ∧ t.dutyPct.toNat = 0
  | .blink =>
    ∃ mv, mv ≤ c.vrefMv ∧ t.freqMhz.toNat = 1000 + mv * 9000 / c.vrefMv ∧
      t.prescaler.toNat = c.fInHz * 1000 / (t.freqMhz.toNat * c.blinkPeriod) ∧ t.period.toNat = c.blinkPeriod ∧
      t.pulse.toNat = c.blinkPeriod / 2 ∧ t.chEn = true ∧ t.dutyPct.toNat = 0
  | .dim =>
    ∃ mv, mv ≤ c.vrefMv ∧ t.dutyPct.toNat = mv * 100 / c.vrefMv ∧ t.prescaler.toNat = c.fInHz / c.cntHz ∧
      t.period.toNat = c.cntHz / 1000 ∧ t.pulse.toNat = t.dutyPct.toNat * t.period.toNat / 100 ∧ t.chEn = true ∧
      t.freqMhz.toNat = 0

/-- The step's answer says that a pending press was consumed (R84, R100). -/
def pressReturned (i : Instr) (answer : Option Response) : Bool :=
  match i with
  | .takePress => answer == some ⟨.ok, 1, 0⟩
  | .swPress => match answer with
    | none => false
    | some r => r.st == .ok || r.st == .full
  | .nop | .rd _ | .swUpdate | .lapRd _ | .fmt _ | .cfgTick | .cfgBlink _ | .cfgDim _ | .tick | .edge | .reset => false

/-- How many steps of an execution returned a press (R87). -/
def pressesReturned : List TraceStep → State → Nat
  | [], _ => 0
  | t :: later, s =>
    match t.run s with
    | .next u => (pressReturned t.instr u.rsp).toNat + pressesReturned later u
    | .fault _ => 0
    | .refused _ => 0

/-- The instructions of an execution, without the draws. -/
def instrsOf (ts : List TraceStep) : List Instr := ts.map (fun t => t.instr)

/-- `n` ticks, then a button press processed before the next tick (R73). -/
def lapPass (n : Nat) : List Instr := List.replicate n .tick ++ [.edge, .swPress]

/-- A configuration command of the shared timer whose reading, if it has one, is in range (R131). -/
def configures (c : Cfg) : Instr → Bool
  | .cfgTick => true
  | .cfgBlink mv => decide (mv.toNat ≤ c.vrefMv)
  | .cfgDim mv => decide (mv.toNat ≤ c.vrefMv)
  | .nop | .rd _ | .takePress | .swPress | .swUpdate | .lapRd _ | .fmt _ | .tick | .edge | .reset => false

end Sys2Proof.Machine
end

