-- ==== Sys2Proof/Certificates/Slice0/Obligations.lean ====
section
/-! DEFINITION. The statements for the provers, from the numbered rules of spec/. Every statement holds for every well-formed
configuration, because `State.cfg` carries one. -/

open Sys2Proof Sys2Proof.Machine

/- Encoding and decoding (30_encoding.md). -/

/-- R60 to R65, R68: every well-formed instruction is read back from its encoding, with every operand value. -/
def Obligations.EncodedInstructionsDecode : Prop :=
  ∀ i : Instr, i.wellFormed = true → decode (encode i) = .ok i

/-- R65, R71: a command word has one meaning, and the encoder gives that word back. -/
def Obligations.DecodedCommandsReencode : Prop :=
  ∀ (w : CmdWord) (i : Instr), decodeCommand w = .ok i → encode i = .command w ∧ i.wellFormed = true

/-- Words written out from the bit patterns of R65 (95_test_vectors.md B1): op, then arg. -/
def Obligations.SpecWordsDecode : Prop :=
  decodeCommand 0x00_00000000#40 = .ok .nop ∧
  decodeCommand 0x01_00000009#40 = .ok (.rd 9#8) ∧
  decodeCommand 0x02_00000000#40 = .ok .takePress ∧
  decodeCommand 0x10_00000000#40 = .ok .swPress ∧
  decodeCommand 0x11_00000000#40 = .ok .swUpdate ∧
  decodeCommand 0x12_000000FF#40 = .ok (.lapRd 255#8) ∧
  decodeCommand 0x13_FFFFFFFF#40 = .ok (.fmt 4294967295#32) ∧
  decodeCommand 0x20_00000000#40 = .ok .cfgTick ∧
  decodeCommand 0x21_00000672#40 = .ok (.cfgBlink 1650#32) ∧
  decodeCommand 0x22_0000044C#40 = .ok (.cfgDim 1100#32) ∧
  decodeCommand 0x01_0000000A#40 = .error (.reservedSelector 10#8) ∧
  decodeCommand 0x01_00000100#40 = .error (.argumentHighBitsNotZero 1#8) ∧
  decodeCommand 0x10_00000005#40 = .error (.argumentNotZero 0x10#8) ∧
  decodeCommand 0x23_00000000#40 = .error (.unassignedOpcode 0x23#8)

/-- R70: a word is reserved in the cases (a) to (d) and in no other; it is answered ILLEGAL and changes no state, so it neither
sets `FAULT` nor clears `PRESS`. -/
def Obligations.ReservedWordsAnsweredIllegal : Prop :=
  ∀ w : CmdWord,
    ((∃ e, decodeCommand w = .error e) ↔
      (w.toNat / 2 ^ 32 ∉ [0x00, 0x01, 0x02, 0x10, 0x11, 0x12, 0x13, 0x20, 0x21, 0x22]) ∨
      (w.toNat / 2 ^ 32 ∈ [0x00, 0x02, 0x10, 0x11, 0x20] ∧ w.toNat % 2 ^ 32 ≠ 0) ∨
      (w.toNat / 2 ^ 32 ∈ [0x01, 0x12] ∧ w.toNat % 2 ^ 32 / 256 ≠ 0) ∨
      (w.toNat / 2 ^ 32 = 0x01 ∧ 9 < w.toNat % 256)) ∧
    ∀ s : State, s.blk.fault = false → (∃ e, decodeCommand w = .error e) →
      serveWord (.command w) s = .next { s with rsp := some ⟨.illegal, 0, 0⟩ }

/-- R65: a word is the command of a row exactly when the word under the row's mask is the row's match, with the further condition
on the selector of `RD`; the operand is the low bits (R64). -/
def Obligations.CommandsMatchTheirTableRow : Prop :=
  ∀ w : CmdWord,
    (decodeCommand w = .ok .nop ↔ w &&& 0xFF_FFFFFFFF#40 = 0x00_00000000#40) ∧
    (∀ sel, decodeCommand w = .ok (.rd sel) ↔
      w &&& 0xFF_FFFFFF00#40 = 0x01_00000000#40 ∧ sel = w.setWidth 8 ∧ sel.toNat ≤ 9) ∧
    (decodeCommand w = .ok .takePress ↔ w &&& 0xFF_FFFFFFFF#40 = 0x02_00000000#40) ∧
    (decodeCommand w = .ok .swPress ↔ w &&& 0xFF_FFFFFFFF#40 = 0x10_00000000#40) ∧
    (decodeCommand w = .ok .swUpdate ↔ w &&& 0xFF_FFFFFFFF#40 = 0x11_00000000#40) ∧
    (∀ i, decodeCommand w = .ok (.lapRd i) ↔
      w &&& 0xFF_FFFFFF00#40 = 0x12_00000000#40 ∧ i = w.setWidth 8) ∧
    (∀ v, decodeCommand w = .ok (.fmt v) ↔
      w &&& 0xFF_00000000#40 = 0x13_00000000#40 ∧ v = w.setWidth 32) ∧
    (decodeCommand w = .ok .cfgTick ↔ w &&& 0xFF_FFFFFFFF#40 = 0x20_00000000#40) ∧
    (∀ mv, decodeCommand w = .ok (.cfgBlink mv) ↔
      w &&& 0xFF_00000000#40 = 0x21_00000000#40 ∧ mv = w.setWidth 32) ∧
    (∀ mv, decodeCommand w = .ok (.cfgDim mv) ↔
      w &&& 0xFF_00000000#40 = 0x22_00000000#40 ∧ mv = w.setWidth 32)

/-- R68: the bits of the event vector, the event each single bit is, where the bits of an instant come from (only a rising edge on
`btn_i` is an edge event), and that an event has no response. -/
def Obligations.EventVectorsAndTheirPins : Prop :=
  (∀ v : EvtVec, (decodeEvent v = .ok .tick ↔ v = 1#3) ∧ (decodeEvent v = .ok .edge ↔ v = 2#3) ∧
    (decodeEvent v = .ok .reset ↔ v = 4#3)) ∧
  (∀ (t : Instant) (was : Bool), (t.events was).getLsbD 0 = t.tick ∧
    (t.events was).getLsbD 1 = (!was && t.btn) ∧ (t.events was).getLsbD 2 = t.rst) ∧
  (∀ (e : EventPin) (s t : State), exec e.instr s = .next t → t.rsp = none)

/-- R66, R67: the status codes, and the response as one 68-bit bundle with the status highest and `d0` lowest. -/
def Obligations.StatusCodesAndBundle : Prop :=
  Status.ok.code = 0x0#4 ∧ Status.empty.code = 0x1#4 ∧ Status.full.code = 0x2#4 ∧ Status.cfgFail.code = 0xD#4 ∧
  Status.halted.code = 0xE#4 ∧ Status.illegal.code = 0xF#4 ∧
  ∀ r : Response, r.bundle.toNat = r.st.code.toNat * 2 ^ 64 + r.d1.toNat * 2 ^ 32 + r.d0.toNat

/- One step (20_memory.md, 30_encoding.md section 4). -/

/-- R69 in every state: a halted block answers HALTED whatever the word, then a reserved word is answered ILLEGAL, then the
command's rule applies. -/
def Obligations.CommandDecodeOrder : Prop :=
  ∀ (s : State) (w : CmdWord),
    (s.blk.fault = true → serveWord (.command w) s = .next { s with rsp := some ⟨.halted, 0, 0⟩ }) ∧
    (s.blk.fault = false → (∀ i, decodeCommand w ≠ .ok i) →
      serveWord (.command w) s = .next { s with rsp := some ⟨.illegal, 0, 0⟩ }) ∧
    (∀ i, s.blk.fault = false → decodeCommand w = .ok i → serveWord (.command w) s = exec i s)

/-- A step runs the decoded instruction (R44, R49), answers a reserved word, and waits when nothing is presented (R11): then only
the ports change and no response is valid (log entries 2 and 6). -/
def Obligations.StepRunsTheDecodedInstruction : Prop :=
  ∀ (s : State) (p : Io),
    (∀ w i, s.io.fetch = (some w, p) → decode w = .ok i → step s = exec i { s with io := p }) ∧
    (∀ w e, s.io.fetch = (some w, p) → decode w = .error e → step s = execReserved { s with io := p }) ∧
    (s.io.fetch = (none, p) → step s = .next { s with io := p, rsp := none })

/-- An instruction presented alone at the ports, a command as its word and an event on its pin, is the one the next step runs. -/
def Obligations.PresentedInstructionRunsNext : Prop :=
  ∀ (s : State) (i : Instr), i.wellFormed = true →
    step { s with io := s.io.hold (encode i) } = exec i { s with io := { s.io with cmd := none, evt := 0 } }

/-- R51, R181: the fetch of a step serves one of the arrivals that wait (at the present instant, or at the next one when nothing
waits), and serves one whenever one waits; it removes that one and keeps every other, so that none is lost; a reset is served only when
nothing else waits. The next instant is the first one listed, and after those listed the next of the free arrivals (R49, R50, log entry
2), so that instants never run out. -/
def Obligations.OneArrivalServedResetLast : Prop :=
  ∀ r q : Io, q = (if r.idle then r.present else r) →
    (r.idle = true ↔ r.cmd = none ∧ r.evt = 0#3) ∧
    (q.cmd ≠ none ∨ q.evt ≠ 0#3 → ∃ w p, r.fetch = (some w, p)) ∧
    (q.cmd = none → q.evt = 0#3 → r.fetch = (none, q)) ∧
    (∀ w p, r.fetch = (some w, p) →
      (∀ c, w = .command c → q.cmd = some c ∧ p.cmd = none ∧ p.evt = q.evt) ∧
      (∀ e, w = .event e → q.evt &&& e.bit = e.bit ∧ p.cmd = q.cmd ∧ p.evt = q.evt &&& ~~~e.bit) ∧
      (w = .event .rst → q.cmd = none ∧ q.evt = 4#3) ∧
      p.coming = q.coming ∧ p.later = q.later ∧ p.cfgOk = q.cfgOk ∧ p.btn = q.btn) ∧
    (r.idle = true → ∃ t : Instant,
      (r.coming = t :: q.coming ∧ q.later = r.later ∨
        r.coming = [] ∧ q.coming = [] ∧ t = Config.arrivals r.later ∧ q.later = r.later + 1) ∧
      q.cmd = t.cmd ∧ q.cfgOk = t.cfgOk ∧ q.evt = t.events r.btn ∧ q.btn = t.btn)

/-- R135, R160: the only instructions without a next state are `CFG_BLINK` and `CFG_DIM` of a reading above `VREF_MV` on a block
that is not halted; every other instruction has a next state in every state. -/
def Obligations.OnlyHighReadingsAreRefused : Prop :=
  ∀ (i : Instr) (s : State),
    (∃ mv, (i = .cfgBlink mv ∨ i = .cfgDim mv) ∧ s.cfg.vrefMv < mv.toNat ∧ s.blk.fault = false ∧
      exec i s = .refused (.readingAboveVref mv)) ∨
    ((∀ mv, i = .cfgBlink mv ∨ i = .cfgDim mv → mv.toNat ≤ s.cfg.vrefMv ∨ s.blk.fault = true) ∧
      ∃ t, exec i s = .next t)

/-- R182: no step writes the configuration. -/
def Obligations.ConfigurationNeverChanges : Prop :=
  ∀ s t : State, step s = .next t → t.cfg = s.cfg

/- Events and the basic commands (40_tick_and_press.md). -/

/-- R80: `@TICK` (event input 0) adds one modulo 2^32 in every state and writes nothing else; `n` ticks add `n`. -/
def Obligations.TickAddsOneModulo : Prop :=
  decodeEvent 0b001#3 = .ok .tick ∧
  (∀ s : State, exec .tick s = .next { s with blk := { s.blk with ticks := s.blk.ticks + 1 }, rsp := none }) ∧
  (∀ s t : State, exec .tick s = .next t → s.blk.ticks = 0xFFFFFFFF#32 → t.blk.ticks = 0#32) ∧
  (∀ (s : State) (n : Nat), runInstrs (List.replicate n .tick) s =
    .next { s with blk := { s.blk with ticks := s.blk.ticks + BitVec.ofNat 32 n }, rsp := if n = 0 then s.rsp else none })

/-- R81: `@EDGE` (event input 1, a rising edge and nothing else) sets `PRESS` in every state and writes nothing else; on a set flag
it changes nothing; two edges are one press, which one take returns. -/
def Obligations.EdgeSetsPress : Prop :=
  decodeEvent 0b010#3 = .ok .edge ∧ (∀ (t : Instant) (was : Bool), (t.events was).getLsbD 1 = (!was && t.btn)) ∧
  (∀ s : State, exec .edge s = .next { s with blk := { s.blk with press := true }, rsp := none }) ∧
  (∀ s t : State, s.blk.press = true → exec .edge s = .next t → t.blk = s.blk) ∧
  (∀ s : State, runInstrs [.edge, .edge] s = runInstrs [.edge] s) ∧
  (∀ s : State, s.blk.fault = false → ∃ t u, runInstrs [.edge, .edge, .takePress] s = .next t ∧
    t.rsp = some ⟨.ok, 1, 0⟩ ∧ exec .takePress t = .next u ∧ u.rsp = some ⟨.ok, 0, 0⟩)

/-- R180, R36: `@RESET` (event input 2) in every state sets every element of the block to 0, and it is the only step that clears
`FAULT`, takes `RUNNING` from 1 to 0, writes `TICKS` other than by +1, or returns `MODE` to `IDLE` without a fault. -/
def Obligations.ResetClearsAndOnlyResetDoes : Prop :=
  decodeEvent 0b100#3 = .ok .reset ∧
  (∀ s : State, ∃ t, exec .reset s = .next t ∧ t.cfg = s.cfg ∧ t.rsp = none ∧
    t.blk = {
      ticks := 0, press := false, running := false, startTick := 0, lapStart := 0,
      laps := List.replicate s.cfg.lapN 0, lapCount := 0,
      tmr := { mode := .idle, prescaler := 0, period := 0, pulse := 0, chEn := false, freqMhz := 0, dutyPct := 0 },
      fault := false }) ∧
  (∀ (i : Instr) (s t : State), i ≠ .reset → exec i s = .next t →
    (s.blk.fault = true → t.blk.fault = true) ∧
    (s.blk.running = true → t.blk.running = true) ∧
    (t.blk.ticks = s.blk.ticks ∨ (i = .tick ∧ t.blk.ticks = s.blk.ticks + 1)) ∧
    (t.blk.tmr.mode = .idle → s.blk.tmr.mode = .idle ∨ (s.blk.fault = false ∧ t.blk.fault = true)))

/-- R36: in the reset state every element of the block is 0, under every configuration. -/
def Obligations.EveryElementIsZeroAfterReset : Prop :=
  ∀ c : Cfg,
    (State.resetIn c).blk.ticks.toNat = 0 ∧ (State.resetIn c).blk.press = false ∧
    (State.resetIn c).blk.running = false ∧ (State.resetIn c).blk.startTick.toNat = 0 ∧
    (State.resetIn c).blk.lapStart.toNat = 0 ∧ (State.resetIn c).blk.laps.length = c.lapN ∧
    (∀ i, (State.resetIn c).blk.lap i = 0) ∧ (State.resetIn c).blk.lapCount.toNat = 0 ∧
    (State.resetIn c).blk.tmr.mode.code = 0#2 ∧ (State.resetIn c).blk.tmr.prescaler.toNat = 0 ∧
    (State.resetIn c).blk.tmr.period.toNat = 0 ∧ (State.resetIn c).blk.tmr.pulse.toNat = 0 ∧
    (State.resetIn c).blk.tmr.chEn = false ∧ (State.resetIn c).blk.tmr.freqMhz.toNat = 0 ∧
    (State.resetIn c).blk.tmr.dutyPct.toNat = 0 ∧ (State.resetIn c).blk.fault = false

/-- R184: the first answers after reset, under every configuration. `State.reset` is the reset state under `REF`, which is the
model's choice (log entry 1). -/
def Obligations.FirstAnswersAfterReset : Prop :=
  State.reset = State.resetIn Cfg.ref ∧ ∀ c : Cfg,
    exec (.rd 0x00#8) (State.resetIn c) = .next { State.resetIn c with rsp := some ⟨.ok, 0, 0⟩ } ∧
    exec .takePress (State.resetIn c) = .next { State.resetIn c with rsp := some ⟨.ok, 0, 0⟩ } ∧
    exec .swPress (State.resetIn c) = .next { State.resetIn c with rsp := some ⟨.empty, 0, 0⟩ } ∧
    exec .swUpdate (State.resetIn c) = .next { State.resetIn c with rsp := some ⟨.empty, 0, 0⟩ } ∧
    (∀ i, exec (.lapRd i) (State.resetIn c) = .next { State.resetIn c with rsp := some ⟨.empty, 0, 0⟩ }) ∧
    exec (.rd 0x04#8) (State.resetIn c) = .next { State.resetIn c with rsp := some ⟨.ok, 0, 0⟩ }

/-- R166: the two orders of `@TICK` and `@EDGE` give the same state; the two orders of `@EDGE` and a take differ in whether that
take or the next one sees the press. -/
def Obligations.SimultaneousEventOrders : Prop :=
  ∀ s : State,
    runInstrs [.tick, .edge] s = runInstrs [.edge, .tick] s ∧
    (s.blk.fault = false → s.blk.press = false →
      runInstrs [.edge, .takePress] s =
        .next { s with blk := { s.blk with press := false }, rsp := some ⟨.ok, 1, 0⟩ } ∧
      runInstrs [.takePress, .edge, .takePress] s =
        .next { s with blk := { s.blk with press := false }, rsp := some ⟨.ok, 1, 0⟩ } ∧
      exec .takePress s = .next { s with rsp := some ⟨.ok, 0, 0⟩ })

/-- R82: `NOP` answers (OK, 0, 0) and leaves the state unchanged. -/
def Obligations.NopOnlyAnswers : Prop :=
  decodeCommand 0x00_00000000#40 = .ok .nop ∧
  ∀ s : State, s.blk.fault = false → exec .nop s = .next { s with rsp := some ⟨.ok, 0, 0⟩ }

/-- R83, R30: the word of `RD sel` reads an assigned selector and is reserved above 9; `RD sel` answers the status register of each
assigned selector, none of which shows `PRESS`, and changes nothing; two reads of `TICKS` with `k` ticks between them differ by `k`
modulo 2^32. -/
def Obligations.RdAnswersStatusRegister : Prop :=
  (∀ sel : BitVec 8, decodeCommand (0x01#8 ++ 0#24 ++ sel) =
    if sel.toNat ≤ 9 then .ok (.rd sel) else .error (.reservedSelector sel)) ∧
  (∀ (s : State) (p : Bool) (r : StatusReg),
    ({ s with blk := { s.blk with press := p } } : State).readStatus r = s.readStatus r) ∧
  ∀ s : State, s.blk.fault = false →
    exec (.rd 0x00#8) s = .next { s with rsp := some ⟨.ok, s.blk.ticks, 0⟩ } ∧
    exec (.rd 0x01#8) s = .next { s with rsp := some ⟨.ok, BitVec.ofNat 32 (
      s.blk.running.toNat + 2 * (if s.blk.lapCount.toNat = s.cfg.lapN then 1 else 0) + 256 * s.blk.lapCount.toNat), 0⟩ } ∧
    exec (.rd 0x02#8) s = .next { s with rsp := some ⟨.ok, s.blk.startTick, 0⟩ } ∧
    exec (.rd 0x03#8) s = .next { s with rsp := some ⟨.ok, s.blk.lapStart, 0⟩ } ∧
    exec (.rd 0x04#8) s = .next { s with rsp := some ⟨.ok, BitVec.ofNat 32 (
      s.blk.tmr.mode.code.toNat + 16 * s.blk.tmr.chEn.toNat), 0⟩ } ∧
    exec (.rd 0x05#8) s = .next { s with rsp := some ⟨.ok, s.blk.tmr.prescaler.setWidth 32, 0⟩ } ∧
    exec (.rd 0x06#8) s = .next { s with rsp := some ⟨.ok, s.blk.tmr.period.setWidth 32, 0⟩ } ∧
    exec (.rd 0x07#8) s = .next { s with rsp := some ⟨.ok, s.blk.tmr.pulse.setWidth 32, 0⟩ } ∧
    exec (.rd 0x08#8) s = .next { s with rsp := some ⟨.ok, s.blk.tmr.freqMhz.setWidth 32, 0⟩ } ∧
    exec (.rd 0x09#8) s = .next { s with rsp := some ⟨.ok, s.blk.tmr.dutyPct.setWidth 32, 0⟩ } ∧
    ∀ k : Nat, runInstrs (List.replicate k .tick ++ [.rd 0x00#8]) s =
      .next { s with blk := { s.blk with ticks := s.blk.ticks + BitVec.ofNat 32 k },
                     rsp := some ⟨.ok, s.blk.ticks + BitVec.ofNat 32 k, 0⟩ }

/-- R31: the layout of `SW_STATUS` as a number, `LAP_FULL` exactly at `LAP_COUNT = LAP_N`, and `PRESS` in no status register. -/
def Obligations.SwStatusLayout : Prop :=
  (∀ s : State, s.swStatus.toNat =
    s.blk.running.toNat + 2 * (if s.blk.lapCount.toNat = s.cfg.lapN then 1 else 0) + 256 * s.blk.lapCount.toNat) ∧
  (∀ (s : State) (p : Bool) (r : StatusReg),
    ({ s with blk := { s.blk with press := p } } : State).readStatus r = s.readStatus r)

/-- R32: the layout of `TMR_MODE` as a number, the codes of `MODE`, and bit 31 reads 0 in every successful read. -/
def Obligations.TmrModeLayout : Prop :=
  (Mode.idle.code = 0#2 ∧ Mode.tick.code = 1#2 ∧ Mode.blink.code = 2#2 ∧ Mode.dim.code = 3#2) ∧
  (∀ s : State, s.tmrMode.toNat =
    s.blk.tmr.mode.code.toNat + 16 * s.blk.tmr.chEn.toNat + 2 ^ 31 * s.blk.fault.toNat) ∧
  (∀ (s t : State) (d0 d1 : Data), exec (.rd 0x04#8) s = .next t → t.rsp = some ⟨.ok, d0, d1⟩ → d0.getLsbD 31 = false)

/-- R84: `TAKE_PRESS` answers `PRESS`, clears it and touches nothing else; taken twice after an edge it answers 1 then 0; an edge
after a take is returned by the next take. -/
def Obligations.TakePressReadsAndClears : Prop :=
  decodeCommand 0x02_00000000#40 = .ok .takePress ∧
  ∀ s : State, s.blk.fault = false →
    exec .takePress s =
      .next { s with blk := { s.blk with press := false }, rsp := some ⟨.ok, if s.blk.press then 1 else 0, 0⟩ } ∧
    runInstrs [.edge, .takePress] s =
      .next { s with blk := { s.blk with press := false }, rsp := some ⟨.ok, 1, 0⟩ } ∧
    runInstrs [.edge, .takePress, .takePress] s =
      .next { s with blk := { s.blk with press := false }, rsp := some ⟨.ok, 0, 0⟩ } ∧
    runInstrs [.takePress, .edge, .takePress] s =
      .next { s with blk := { s.blk with press := false }, rsp := some ⟨.ok, 1, 0⟩ }

/-- R87: over any execution, whatever its draws, the presses the takes return, with the one still pending, are at most the edges and the one that was
pending at the start. -/
def Obligations.PressesReturnedAtMostEdges : Prop :=
  ∀ (ts : List TraceStep) (s t : State), runTrace ts s = .next t →
    pressesReturned ts s + t.blk.press.toNat ≤ (instrsOf ts).count .edge + s.blk.press.toNat ∧
    pressesReturned ts s ≤ (instrsOf ts).count .takePress + (instrsOf ts).count .swPress

/- The stopwatch (41_stopwatch.md). -/

/-- R100: the four branches of `SW_PRESS`, each with everything it writes and its answer. -/
def Obligations.SwPressTransitions : Prop :=
  decodeCommand 0x10_00000000#40 = .ok .swPress ∧
  ∀ s : State, s.blk.fault = false → exec .swPress s = .next (
    if s.blk.press = false then
      { s with blk := { s.blk with press := false }, rsp := some ⟨.empty, 0, 0⟩ }
    else if s.blk.running = false then
      { s with
        blk := { s.blk with press := false, running := true, startTick := s.blk.ticks, lapStart := s.blk.ticks,
                            lapCount := 0, laps := List.replicate s.cfg.lapN 0 },
        rsp := some ⟨.ok, 1, s.blk.ticks⟩ }
    else if s.blk.lapCount.toNat < s.cfg.lapN then
      { s with
        blk := { s.blk with press := false, laps := s.blk.laps.set s.blk.lapCount.toNat (s.blk.ticks - s.blk.lapStart),
                            lapStart := s.blk.ticks, lapCount := s.blk.lapCount + 1 },
        rsp := some ⟨.ok, 2, s.blk.ticks - s.blk.lapStart⟩ }
    else
      { s with blk := { s.blk with press := false }, rsp := some ⟨.full, 0, 0⟩ })

/-- R103: a lap duration is the difference modulo 2^32; after `n` ticks since the last processed press the recorded lap is `n`
modulo 2^32, so the true count when that is below 2^32. -/
def Obligations.LapDurationIsModularDifference : Prop :=
  (∀ b : Block, b.lapElapsed.toNat = (b.ticks.toNat + 2 ^ 32 - b.lapStart.toNat) % 2 ^ 32) ∧
  (∀ (s : State) (n : Nat), s.blk.fault = false → s.blk.running = true → s.blk.lapCount.toNat < s.cfg.lapN →
    s.blk.lapStart = s.blk.ticks →
    ∃ t d, runInstrs (lapPass n) s = .next t ∧ t.rsp = some ⟨.ok, 2, d⟩ ∧ d.toNat = n % 2 ^ 32 ∧
      t.blk.laps = s.blk.laps.set s.blk.lapCount.toNat d)

/-- R104: a press at full capacity is consumed and changes nothing else. -/
def Obligations.PressAtFullCapacityConsumed : Prop :=
  ∀ s : State, s.blk.fault = false → s.blk.press = true → s.blk.running = true → s.blk.lapCount.toNat = s.cfg.lapN →
    exec .swPress s = .next { s with blk := { s.blk with press := false }, rsp := some ⟨.full, 0, 0⟩ }

/-- R105: the three answers of `SW_UPDATE`, which writes no state. -/
def Obligations.SwUpdateAnswers : Prop :=
  decodeCommand 0x11_00000000#40 = .ok .swUpdate ∧
  ∀ s : State, s.blk.fault = false → exec .swUpdate s = .next { s with rsp := some (
    if s.blk.running = false then ⟨.empty, 0, 0⟩
    else if s.blk.lapCount.toNat < s.cfg.lapN then
      ⟨.ok, s.blk.ticks - s.blk.startTick, s.blk.ticks - s.blk.lapStart⟩
    else ⟨.full, s.blk.ticks - s.blk.startTick, 0⟩) }

/-- R106: two updates with no tick, no `SW_PRESS` and no reset between them, on a block not halted by then, answer the same. -/
def Obligations.SwUpdateIsIdempotent : Prop :=
  ∀ (first : TraceStep) (ts : List TraceStep) (s t : State), first.instr = .swUpdate →
    (∀ i ∈ instrsOf ts, i ≠ .tick ∧ i ≠ .swPress ∧ i ≠ .reset) →
    runTrace (first :: ts) s = .next t → t.blk.fault = false →
    ∃ r, exec .swUpdate s = .next { s with rsp := some r } ∧ exec .swUpdate t = .next { t with rsp := some r }

/-- R112: `LAP_RD i` answers the lap below `LAP_COUNT` and EMPTY with 0 from there on, which takes in every index of a stopped
block and every index outside the table (with the invariant of R19). -/
def Obligations.LapRdAnswers : Prop :=
  (∀ i : BitVec 8, decodeCommand (0x12#8 ++ 0#24 ++ i) = .ok (.lapRd i)) ∧
  ∀ (s : State) (i : BitVec 8), s.blk.fault = false →
    exec (.lapRd i) s = .next { s with rsp := some (
      if i.toNat < s.blk.lapCount.toNat then ⟨.ok, s.blk.lap i.toNat, 0⟩ else ⟨.empty, 0, 0⟩) } ∧
    (s.blk.LapTableOk s.cfg → s.cfg.lapN ≤ i.toNat ∨ s.blk.running = false →
      exec (.lapRd i) s = .next { s with rsp := some ⟨.empty, 0, 0⟩ })

/-- R114: `FMT v` answers minutes, seconds and hundredths without truncation, and changes nothing; they give `v` back. -/
def Obligations.FmtSplitsCentiseconds : Prop :=
  (∀ v : Data, decodeCommand (0x13#8 ++ v) = .ok (.fmt v)) ∧
  ∀ (s : State) (v : Data), s.blk.fault = false →
    ∃ d0 d1, exec (.fmt v) s = .next { s with rsp := some ⟨.ok, d0, d1⟩ } ∧
      d1.toNat = v.toNat / 6000 ∧ (d0.extractLsb' 8 8).toNat = v.toNat % 6000 / 100 ∧
      (d0.extractLsb' 0 8).toNat = v.toNat % 100 ∧ d0.extractLsb' 16 16 = 0#16 ∧
      v.toNat = 6000 * d1.toNat + 100 * (d0.extractLsb' 8 8).toNat + (d0.extractLsb' 0 8).toNat ∧
      d1.toNat ≤ 715827 ∧ (d0.extractLsb' 8 8).toNat ≤ 59 ∧ (d0.extractLsb' 0 8).toNat ≤ 99

/-- R115: the text form has the eight characters MM:SS.CC below one hundred minutes, and there is none from there on. -/
def Obligations.TextFormBelowHundredMinutes : Prop :=
  ∀ v : Nat,
    (v < 600000 → timeText v = some
      [Nat.digitChar (v / 60000), Nat.digitChar (v / 6000 % 10), ':',
       Nat.digitChar (v % 6000 / 1000), Nat.digitChar (v % 6000 / 100 % 10), '.',
       Nat.digitChar (v % 100 / 10), Nat.digitChar (v % 10)]) ∧
    (600000 ≤ v → timeText v = none)

/-- R108: from a stopped block, the laps are the gaps between consecutive processed presses, modulo 2^32, up to `LAP_N` of them;
later presses change nothing. -/
def Obligations.LapsAreGapsBetweenPresses : Prop :=
  ∀ (s : State) (gaps : List Nat), s.blk.fault = false → s.blk.running = false →
    ∃ t, runInstrs ([.edge, .swPress] ++ gaps.flatMap lapPass) s = .next t ∧
      t.blk.laps = (gaps.take s.cfg.lapN).map (BitVec.ofNat 32) ++ List.replicate (s.cfg.lapN - gaps.length) 0#32 ∧
      t.blk.lapCount.toNat = min gaps.length s.cfg.lapN ∧ t.blk.running = true ∧ t.blk.startTick = s.blk.ticks

/-- R19 (a), (b), (d): every step keeps the invariants of the lap table. -/
def Obligations.StepKeepsLapTable : Prop :=
  ∀ s t : State, s.blk.LapTableOk s.cfg → step s = .next t → t.blk.LapTableOk t.cfg

/-- R109: every step keeps the laps tiling the time from the start to the running lap's start. -/
def Obligations.StepKeepsLapsTiling : Prop :=
  ∀ s t : State, s.blk.LapTableOk s.cfg → s.blk.LapsTile → step s = .next t → t.blk.LapsTile

/-- R109: while the table has room, the laps and the running lap that `SW_UPDATE` answers add up to the total it answers. -/
def Obligations.LapsAndRunningLapMakeTotal : Prop :=
  ∀ s : State, s.blk.LapsTile → s.blk.fault = false → s.blk.running = true → s.blk.lapCount.toNat < s.cfg.lapN →
    ∃ total cur, exec .swUpdate s = .next { s with rsp := some ⟨.ok, total, cur⟩ } ∧ s.blk.laps.sum + cur = total

/-- R19, R29, R109: the reset state meets the invariants, under every configuration. -/
def Obligations.ResetMeetsInvariants : Prop :=
  ∀ c : Cfg, (State.resetIn c).blk.LapTableOk c ∧ (State.resetIn c).blk.LapsTile ∧
    (State.resetIn c).blk.tmr.Consistent c

/-- R19 (c): while running, the time since `LAP_START` (since `START_TICK`) counts the `@TICK` events since that element was last
written, modulo 2^32: a tick adds one, the write sets it to 0, any other step keeps it. -/
def Obligations.ElapsedTimesCountTicks : Prop :=
  ∀ (i : Instr) (s t : State) (k m : Nat), exec i s = .next t → t.blk.running = true →
    (s.blk.running = true → s.blk.ticks - s.blk.lapStart = BitVec.ofNat 32 k ∧
      s.blk.ticks - s.blk.startTick = BitVec.ofNat 32 m) →
    t.blk.ticks - t.blk.lapStart = BitVec.ofNat 32 (
      if s.blk.running = false ∨ t.blk.lapCount ≠ s.blk.lapCount then 0 else if i = .tick then k + 1 else k) ∧
    t.blk.ticks - t.blk.startTick = BitVec.ofNat 32 (
      if s.blk.running = false then 0 else if i = .tick then m + 1 else m)

/-- R110: without a reset, whatever the draws, a recorded lap keeps its value. -/
def Obligations.RecordedLapsNeverChange : Prop :=
  ∀ (ts : List TraceStep) (s t : State) (k : Nat), s.blk.LapTableOk s.cfg → (∀ i ∈ instrsOf ts, i ≠ .reset) →
    runTrace ts s = .next t → k < s.blk.lapCount.toNat →
    t.blk.lap k = s.blk.lap k ∧ s.blk.lapCount.toNat ≤ t.blk.lapCount.toNat

/-- R111: no command or event but `@RESET` takes a running block back to Stopped, clears its laps or rewrites `START_TICK`. -/
def Obligations.NoWayBackToStopped : Prop :=
  (∀ (i : Instr) (s t : State), s.blk.LapTableOk s.cfg → s.blk.running = true → i ≠ .reset → exec i s = .next t →
    t.blk.running = true ∧ t.blk.startTick = s.blk.startTick ∧ s.blk.lapCount.toNat ≤ t.blk.lapCount.toNat ∧
    ∀ k, k < s.blk.lapCount.toNat → t.blk.lap k = s.blk.lap k) ∧
  (∀ s t : State, exec .reset s = .next t → t.blk.running = false ∧ t.blk.lapCount = 0 ∧ t.blk.startTick = 0)

/- The shared-timer arbiter (42_timer_arbiter.md) and its fault (60_exceptions.md). -/

/-- R137: `CFG_TICK`: accepted by the peripheral it writes all seven timer elements, untruncated, and nothing else, and the output is
off; rejected it raises `CfgFail`. -/
def Obligations.CfgTickConfigures : Prop :=
  decodeCommand 0x20_00000000#40 = .ok .cfgTick ∧
  (∀ s : State, s.blk.fault = false → s.io.cfgOk = false →
    exec .cfgTick s = .next { s with
      blk := { s.blk with fault := true, tmr := SharedTimer.idle }, rsp := some ⟨.cfgFail, 0, 0⟩ }) ∧
  (∀ c : Cfg, 1 ≤ c.fInHz / c.cntHz ∧ c.fInHz / c.cntHz < 2 ^ 16 ∧ 1 ≤ c.cntHz / 100 ∧ c.cntHz / 100 < 2 ^ 16) ∧
  ∀ s : State, s.blk.fault = false → s.io.cfgOk = true →
    exec .cfgTick s = .next { s with
      blk := { s.blk with tmr :=
        { mode := .tick, prescaler := BitVec.ofNat 16 (s.cfg.fInHz / s.cfg.cntHz),
          period := BitVec.ofNat 16 (s.cfg.cntHz / 100), pulse := 0, chEn := false, freqMhz := 0, dutyPct := 0 } },
      rsp := some ⟨.ok, 0, 0⟩ }

/-- R140: `CFG_BLINK mv` of a reading in range: accepted it writes all seven timer elements, untruncated, and nothing else, and
answers `f`; rejected it raises `CfgFail`; a reading above `VREF_MV` is refused. -/
def Obligations.CfgBlinkConfigures : Prop :=
  (∀ mv : Data, decodeCommand (0x21#8 ++ mv) = .ok (.cfgBlink mv)) ∧
  (∀ (s : State) (mv : Data), s.blk.fault = false → s.cfg.vrefMv < mv.toNat →
    exec (.cfgBlink mv) s = .refused (.readingAboveVref mv)) ∧
  (∀ (s : State) (mv : Data), s.blk.fault = false → s.io.cfgOk = false → mv.toNat ≤ s.cfg.vrefMv →
    exec (.cfgBlink mv) s = .next { s with
      blk := { s.blk with fault := true, tmr := SharedTimer.idle }, rsp := some ⟨.cfgFail, 0, 0⟩ }) ∧
  (∀ (c : Cfg) (mv f : Nat), mv ≤ c.vrefMv → f = 1000 + mv * 9000 / c.vrefMv →
    1000 ≤ f ∧ f ≤ 10000 ∧ 1 ≤ c.fInHz * 1000 / (f * c.blinkPeriod) ∧
    c.fInHz * 1000 / (f * c.blinkPeriod) < 2 ^ 16 ∧ c.blinkPeriod < 2 ^ 16) ∧
  ∀ (s : State) (mv : Data) (f : Nat), s.blk.fault = false → s.io.cfgOk = true → mv.toNat ≤ s.cfg.vrefMv →
    f = 1000 + mv.toNat * 9000 / s.cfg.vrefMv →
    exec (.cfgBlink mv) s = .next { s with
      blk := { s.blk with tmr :=
        { mode := .blink, prescaler := BitVec.ofNat 16 (s.cfg.fInHz * 1000 / (f * s.cfg.blinkPeriod)),
          period := BitVec.ofNat 16 s.cfg.blinkPeriod, pulse := BitVec.ofNat 16 (s.cfg.blinkPeriod / 2), chEn := true,
          freqMhz := BitVec.ofNat 16 f, dutyPct := 0 } },
      rsp := some ⟨.ok, BitVec.ofNat 32 f, 0⟩ }

/-- R143: `CFG_DIM mv` of a reading in range: accepted it writes all seven timer elements, untruncated, and nothing else, and
answers `d`; rejected it raises `CfgFail`; a reading above `VREF_MV` is refused. -/
def Obligations.CfgDimConfigures : Prop :=
  (∀ mv : Data, decodeCommand (0x22#8 ++ mv) = .ok (.cfgDim mv)) ∧
  (∀ (s : State) (mv : Data), s.blk.fault = false → s.cfg.vrefMv < mv.toNat →
    exec (.cfgDim mv) s = .refused (.readingAboveVref mv)) ∧
  (∀ (s : State) (mv : Data), s.blk.fault = false → s.io.cfgOk = false → mv.toNat ≤ s.cfg.vrefMv →
    exec (.cfgDim mv) s = .next { s with
      blk := { s.blk with fault := true, tmr := SharedTimer.idle }, rsp := some ⟨.cfgFail, 0, 0⟩ }) ∧
  (∀ (c : Cfg) (mv d : Nat), mv ≤ c.vrefMv → d = mv * 100 / c.vrefMv →
    d ≤ 100 ∧ d * (c.cntHz / 1000) / 100 ≤ c.cntHz / 1000 ∧ c.cntHz / 1000 < 2 ^ 16 ∧ c.fInHz / c.cntHz < 2 ^ 16) ∧
  ∀ (s : State) (mv : Data) (d per : Nat), s.blk.fault = false → s.io.cfgOk = true → mv.toNat ≤ s.cfg.vrefMv →
    d = mv.toNat * 100 / s.cfg.vrefMv → per = s.cfg.cntHz / 1000 →
    exec (.cfgDim mv) s = .next { s with
      blk := { s.blk with tmr :=
        { mode := .dim, prescaler := BitVec.ofNat 16 (s.cfg.fInHz / s.cfg.cntHz), period := BitVec.ofNat 16 per,
          pulse := BitVec.ofNat 16 (d * per / 100), chEn := true, freqMhz := 0, dutyPct := BitVec.ofNat 8 d } },
      rsp := some ⟨.ok, BitVec.ofNat 32 d, 0⟩ }

/-- R161: a configuration command of a block that is not halted, its reading in range, with `cfg_ok = 0`: exactly the writes of
`CfgFail`, the stopwatch, `TICKS` and `PRESS` untouched, the status 0xD; nothing but `@RESET` clears the fault. -/
def Obligations.FailedConfigurationLatchesFault : Prop :=
  Status.cfgFail.code = 0xD#4 ∧
  (∀ (i : Instr) (s t : State), s.blk.fault = true → i ≠ .reset → exec i s = .next t → t.blk.fault = true) ∧
  ∀ (i : Instr) (s : State), configures s.cfg i = true → s.blk.fault = false → s.io.cfgOk = false →
    exec i s = .next { s with
      blk := { s.blk with fault := true, tmr :=
        { mode := .idle, prescaler := 0, period := 0, pulse := 0, chEn := false, freqMhz := 0, dutyPct := 0 } },
      rsp := some ⟨.cfgFail, 0, 0⟩ }

/-- R135: a reading above `VREF_MV` is refused, whatever `cfg_ok` says; a halted block answers HALTED first (R69). -/
def Obligations.ReadingAboveVrefRefused : Prop :=
  ∀ (s : State) (mv : Data), s.cfg.vrefMv < mv.toNat →
    (s.blk.fault = false → exec (.cfgBlink mv) s = .refused (.readingAboveVref mv) ∧
      exec (.cfgDim mv) s = .refused (.readingAboveVref mv)) ∧
    (s.blk.fault = true → exec (.cfgBlink mv) s = .next { s with rsp := some ⟨.halted, 0, 0⟩ } ∧
      exec (.cfgDim mv) s = .next { s with rsp := some ⟨.halted, 0, 0⟩ })

/-- R163: a halted block answers every word HALTED and changes nothing, events still happen, `fault_o` is 1, and the halted state
is no successful end. -/
def Obligations.HaltedBlock : Prop :=
  ∀ s : State, s.blk.fault = true →
    (∀ w, serveWord (.command w) s = .next { s with rsp := some ⟨.halted, 0, 0⟩ }) ∧
    exec .tick s = .next { s with blk := { s.blk with ticks := s.blk.ticks + 1 }, rsp := none } ∧
    exec .edge s = .next { s with blk := { s.blk with press := true }, rsp := none } ∧
    s.outputs.fault = true ∧ ∀ ts, (∀ u ∈ ts, u.instr ≠ .reset) → successful ts s = false

/-- R163, R168: over any execution without a reset, whatever its draws, a halted block changes by its ticks and edges only, and no step is refused. -/
def Obligations.HaltedUntilReset : Prop :=
  ∀ (ts : List TraceStep) (s : State), s.blk.fault = true → (∀ i ∈ instrsOf ts, i ≠ .reset) →
    ∃ t, runTrace ts s = .next t ∧ t.blk = { s.blk with
      ticks := s.blk.ticks + BitVec.ofNat 32 ((instrsOf ts).count .tick),
      press := s.blk.press || (instrsOf ts).contains .edge }

/-- R132: the blink frequency of a reading in range: the formula, the range, the end points, non-decreasing. -/
def Obligations.BlinkFrequencyMap : Prop :=
  ∀ c : Cfg, (∀ mv, blinkMhz c mv = 1000 + mv * 9000 / c.vrefMv) ∧
    (∀ mv, mv ≤ c.vrefMv → 1000 ≤ blinkMhz c mv ∧ blinkMhz c mv ≤ 10000) ∧
    (∀ mv mv', mv ≤ mv' → blinkMhz c mv ≤ blinkMhz c mv') ∧
    blinkMhz c 0 = 1000 ∧ blinkMhz c c.vrefMv = 10000

/-- R133: the duty of a reading in range: the formula, the range, the end points, non-decreasing. -/
def Obligations.DutyMap : Prop :=
  ∀ c : Cfg, (∀ mv, dutyPct c mv = mv * 100 / c.vrefMv) ∧ (∀ mv, mv ≤ c.vrefMv → dutyPct c mv ≤ 100) ∧
    (∀ mv mv', mv ≤ mv' → dutyPct c mv ≤ dutyPct c mv') ∧
    dutyPct c 0 = 0 ∧ dutyPct c c.vrefMv = 100

/-- R138, R142: the registers after a configuration from the reading 0 and from the reading `VREF_MV`. -/
def Obligations.BoundaryReadings : Prop :=
  ∀ s : State, s.blk.fault = false → s.io.cfgOk = true →
    (∃ t, exec (.cfgBlink 0) s = .next t ∧ t.blk.tmr.freqMhz.toNat = 1000) ∧
    (∃ t, exec (.cfgBlink (BitVec.ofNat 32 s.cfg.vrefMv)) s = .next t ∧ t.blk.tmr.freqMhz.toNat = 10000) ∧
    (∃ t, exec (.cfgDim 0) s = .next t ∧ t.blk.tmr.dutyPct.toNat = 0 ∧ t.blk.tmr.pulse.toNat = 0) ∧
    (∃ t, exec (.cfgDim (BitVec.ofNat 32 s.cfg.vrefMv)) s = .next t ∧ t.blk.tmr.dutyPct.toNat = 100 ∧
      t.blk.tmr.pulse = t.blk.tmr.period)

/-- R3, R139, R141, R160: under every configuration and reading in range, every value a configuration computes fits its register
and no divisor is 0; the blink prescaler realises at least the target frequency, at half the period. -/
def Obligations.TimerValuesFitTheirRegisters : Prop :=
  ∀ (c : Cfg) (mv : Nat), mv ≤ c.vrefMv →
    1 ≤ basePrescaler c ∧ basePrescaler c < 2 ^ 16 ∧ 1 ≤ tickPeriod c ∧ tickPeriod c < 2 ^ 16 ∧
    1 ≤ dimPeriod c ∧ dimPeriod c < 2 ^ 16 ∧ dimPulse c (dutyPct c mv) ≤ dimPeriod c ∧ dutyPct c mv < 2 ^ 8 ∧
    1 ≤ blinkPsc c (blinkMhz c mv) ∧ blinkPsc c (blinkMhz c mv) < 2 ^ 16 ∧ blinkMhz c mv < 2 ^ 16 ∧
    2 * (c.blinkPeriod / 2) = c.blinkPeriod ∧ c.blinkPeriod < 2 ^ 16 ∧
    1 ≤ c.vrefMv ∧ 1 ≤ c.cntHz ∧ 2000 ≤ blinkMhz c mv * c.blinkPeriod ∧
    blinkMhz c mv * (blinkPsc c (blinkMhz c mv) * c.blinkPeriod) ≤ c.fInHz * 1000

/-- R29: every step keeps the shared-timer table, and so `PULSE` at most `PERIOD`. -/
def Obligations.StepKeepsTimerTable : Prop :=
  ∀ s t : State, s.blk.tmr.Consistent s.cfg → step s = .next t →
    t.blk.tmr.Consistent t.cfg ∧ t.blk.tmr.pulse.toNat ≤ t.blk.tmr.period.toNat

/-- R144: after any sequence of configurations in which none failed, the timer is what the last one alone writes from reset, and
the mode is the last one's. The run from reset is accepted because `cfg_ok` is 1 in `State.resetIn`: the model's choice (log entry 5). -/
def Obligations.ModeSwitchesLeaveNoResidue : Prop :=
  ∀ (s : State) (is : List Instr) (i : Instr), s.blk.fault = false → s.io.cfgOk = true →
    (∀ j ∈ is, configures s.cfg j = true) → configures s.cfg i = true →
    ∃ t u, runInstrs (is ++ [i]) s = .next t ∧ exec i (State.resetIn s.cfg) = .next u ∧
      t.blk = { s.blk with tmr := u.blk.tmr } ∧
      (i = .cfgTick → t.blk.tmr.mode = .tick) ∧ (∀ mv, i = .cfgBlink mv → t.blk.tmr.mode = .blink) ∧
      (∀ mv, i = .cfgDim mv → t.blk.tmr.mode = .dim)

/-- R146: only a reset or a failed configuration brings the timer to `IDLE`; an accepted `CFG_TICK` turns the output off. -/
def Obligations.IdleOnlyByResetOrFailure : Prop :=
  (∀ (i : Instr) (s t : State), exec i s = .next t → t.blk.tmr.mode = .idle →
    s.blk.tmr.mode = .idle ∨ i = .reset ∨ t.rsp = some ⟨.cfgFail, 0, 0⟩) ∧
  (∀ s t : State, s.blk.fault = false → s.io.cfgOk = true → exec .cfgTick s = .next t → t.blk.tmr.chEn = false)

/-- R147: a configuration leaves the stopwatch half alone and does not depend on it; ticks, edges and the stopwatch's commands
leave the timer half alone and do not depend on it. -/
def Obligations.ArbiterAndStopwatchIndependent : Prop :=
  (∀ (i : Instr) (s : State) (b : Block), (i = .cfgTick ∨ (∃ mv, i = .cfgBlink mv) ∨ ∃ mv, i = .cfgDim mv) →
    b.tmr = s.blk.tmr → b.fault = s.blk.fault →
    ∀ t, exec i s = .next t →
      t.blk = { s.blk with tmr := t.blk.tmr, fault := t.blk.fault } ∧
      exec i { s with blk := b } = .next { t with blk := { b with tmr := t.blk.tmr, fault := t.blk.fault } }) ∧
  (∀ (i : Instr) (s : State) (x : SharedTimer),
    (i = .takePress ∨ i = .swPress ∨ i = .swUpdate ∨ (∃ k, i = .lapRd k) ∨ (∃ v, i = .fmt v) ∨ i = .tick ∨ i = .edge) →
    ∃ t, exec i s = .next t ∧ t.blk.tmr = s.blk.tmr ∧ t.blk.fault = s.blk.fault ∧
      exec i { s with blk := { s.blk with tmr := x } } = .next { t with blk := { t.blk with tmr := x } })

/- The whole machine. -/

/-- R33 and the table of 10_state.md section 1: who writes each element. -/
def Obligations.WriteRightsByAgent : Prop :=
  ∀ (i : Instr) (s t : State), exec i s = .next t →
    (i = .tick → t.blk = { s.blk with ticks := t.blk.ticks }) ∧
    (i = .edge → t.blk = { s.blk with press := true }) ∧
    (i ≠ .tick → i ≠ .reset → t.blk.ticks = s.blk.ticks) ∧
    (i ≠ .edge → t.blk.press = true → s.blk.press = true) ∧
    (i ≠ .takePress → i ≠ .swPress → i ≠ .edge → i ≠ .reset → t.blk.press = s.blk.press) ∧
    (i ≠ .swPress → i ≠ .reset →
      t.blk.running = s.blk.running ∧ t.blk.startTick = s.blk.startTick ∧ t.blk.lapStart = s.blk.lapStart ∧
      t.blk.laps = s.blk.laps ∧ t.blk.lapCount = s.blk.lapCount) ∧
    (i ≠ .cfgTick → (∀ mv, i ≠ .cfgBlink mv) → (∀ mv, i ≠ .cfgDim mv) → i ≠ .reset →
      t.blk.tmr = s.blk.tmr ∧ t.blk.fault = s.blk.fault) ∧
    (i = .reset → t.blk = Block.reset s.cfg)

/-- R48: `NOP`, `RD`, `SW_UPDATE`, `LAP_RD` and `FMT` change nothing but the response, in every state, and repeated at once they
answer the same. -/
def Obligations.ReadingCommandsChangeNothing : Prop :=
  ∀ (i : Instr) (s : State),
    (i = .nop ∨ (∃ sel, i = .rd sel) ∨ i = .swUpdate ∨ (∃ k, i = .lapRd k) ∨ ∃ v, i = .fmt v) →
    ∃ r, exec i s = .next { s with rsp := some r } ∧
      exec i { s with rsp := some r } = .next { s with rsp := some r }

/-- R28, R35: the output ports are the settings, the fault and the last response; the document's `PwmMode` is a function of
them. -/
def Obligations.OutputsShowTheSettings : Prop :=
  ∀ s : State,
    s.outputs.pwmEn = s.blk.tmr.chEn ∧ s.outputs.tmrMode = s.blk.tmr.mode.code ∧
    s.outputs.tmrPsc = s.blk.tmr.prescaler ∧ s.outputs.tmrPer = s.blk.tmr.period ∧
    s.outputs.tmrPulse = s.blk.tmr.pulse ∧ s.outputs.fault = s.blk.fault ∧ s.outputs.rspValid = s.rsp.isSome ∧
    (∀ r, s.rsp = some r →
      s.outputs.rspSt = r.st.code ∧ s.outputs.rspD0 = r.d0 ∧ s.outputs.rspD1 = r.d1) ∧
    (s.blk.tmr.pwmMode = .idle ↔ s.blk.tmr.mode = .idle ∨ s.blk.tmr.mode = .tick) ∧
    (s.blk.tmr.mode = .blink → s.blk.tmr.pwmMode = .blinkFrequency s.blk.tmr.freqMhz) ∧
    (s.blk.tmr.mode = .dim → s.blk.tmr.pwmMode = .dimming s.blk.tmr.dutyPct)

/-- R49, R53, R162: the machine with ports runs a sequence of steps, each with its own draw of `cfg_ok`, presented one after the other
exactly as the sequence says: the same block, the same last response, from any state with nothing waiting. So it runs every infinite
execution, presented step by step, and there is one from every state for every infinite sequence of steps whose readings are in
range. -/
def Obligations.PortsRunThePresentedSequence : Prop :=
  (∀ (ts : Nat → TraceStep) (s : State),
    (∀ n mv, (ts n).instr = .cfgBlink mv ∨ (ts n).instr = .cfgDim mv → mv.toNat ≤ s.cfg.vrefMv) →
    ∃ states, states 0 = s ∧ Executes ts states) ∧
  (∀ (ts : Nat → TraceStep) (states : Nat → State), (∀ n, (ts n).instr.wellFormed = true) → Executes ts states →
    (states 0).io.cmd = none → (states 0).io.evt = 0 → (states 0).io.coming = [] →
    ∃ ports : Nat → State, ports 0 = states 0 ∧ ∀ n,
      Host.Core.run core (ts n).instants.length ((ports n).offer (ts n).instants) = .next (ports (n + 1)) ∧
      (ports n).blk = (states n).blk ∧ (ports n).rsp = (states n).rsp ∧ (ports n).cfg = (states n).cfg) ∧
  ∀ (ts : List TraceStep) (s t : State), (∀ u ∈ ts, u.instr.wellFormed = true) → s.io.cmd = none → s.io.evt = 0 →
    s.io.coming = ts.flatMap TraceStep.instants → runTrace ts s = .next t →
    ∃ u, Host.Core.run core (ts.flatMap TraceStep.instants).length s = .next u ∧
      u.blk = t.blk ∧ u.rsp = t.rsp ∧ u.cfg = t.cfg ∧ u.io.coming = []
end

