-- ==== Sys2Proof/Laws/State.lean ====
section
/-! SUPPORT. One lemma per field per update of the state, all by `rfl`: what each update writes and what it leaves. -/

namespace Sys2Proof.Machine

@[simp] theorem State.respond_cfg (s : State) (st : Status) (d0 d1 : Data) :
    (s.respond st d0 d1).cfg = s.cfg := rfl

@[simp] theorem State.respond_blk (s : State) (st : Status) (d0 d1 : Data) :
    (s.respond st d0 d1).blk = s.blk := rfl

@[simp] theorem State.respond_rsp (s : State) (st : Status) (d0 d1 : Data) :
    (s.respond st d0 d1).rsp = some ⟨st, d0, d1⟩ := rfl

@[simp] theorem State.respond_io (s : State) (st : Status) (d0 d1 : Data) :
    (s.respond st d0 d1).io = s.io := rfl

@[simp] theorem State.silent_cfg (s : State) :
    s.silent.cfg = s.cfg := rfl

@[simp] theorem State.silent_blk (s : State) :
    s.silent.blk = s.blk := rfl

@[simp] theorem State.silent_rsp (s : State) :
    s.silent.rsp = none := rfl

@[simp] theorem State.silent_io (s : State) :
    s.silent.io = s.io := rfl

@[simp] theorem State.setBlk_cfg (s : State) (b : Block) :
    (s.setBlk b).cfg = s.cfg := rfl

@[simp] theorem State.setBlk_blk (s : State) (b : Block) :
    (s.setBlk b).blk = b := rfl

@[simp] theorem State.setBlk_rsp (s : State) (b : Block) :
    (s.setBlk b).rsp = s.rsp := rfl

@[simp] theorem State.setBlk_io (s : State) (b : Block) :
    (s.setBlk b).io = s.io := rfl

@[simp] theorem State.setIo_cfg (s : State) (p : Io) :
    (s.setIo p).cfg = s.cfg := rfl

@[simp] theorem State.setIo_blk (s : State) (p : Io) :
    (s.setIo p).blk = s.blk := rfl

@[simp] theorem State.setIo_rsp (s : State) (p : Io) :
    (s.setIo p).rsp = s.rsp := rfl

@[simp] theorem State.setIo_io (s : State) (p : Io) :
    (s.setIo p).io = p := rfl

@[simp] theorem State.setCfgOk_cfg (s : State) (v : Bool) :
    (s.setCfgOk v).cfg = s.cfg := rfl

@[simp] theorem State.setCfgOk_blk (s : State) (v : Bool) :
    (s.setCfgOk v).blk = s.blk := rfl

@[simp] theorem State.setCfgOk_rsp (s : State) (v : Bool) :
    (s.setCfgOk v).rsp = s.rsp := rfl

@[simp] theorem State.setCfgOk_io (s : State) (v : Bool) :
    (s.setCfgOk v).io = { s.io with cfgOk := v } := rfl

@[simp] theorem State.raiseCfgFail_cfg (s : State) :
    s.raiseCfgFail.cfg = s.cfg := rfl

@[simp] theorem State.raiseCfgFail_blk (s : State) :
    s.raiseCfgFail.blk = s.blk.latchFault := rfl

@[simp] theorem State.raiseCfgFail_rsp (s : State) :
    s.raiseCfgFail.rsp = some ⟨.cfgFail, 0, 0⟩ := rfl

@[simp] theorem State.raiseCfgFail_io (s : State) :
    s.raiseCfgFail.io = s.io := rfl

@[simp] theorem State.resetBlock_cfg (s : State) :
    s.resetBlock.cfg = s.cfg := rfl

@[simp] theorem State.resetBlock_blk (s : State) :
    s.resetBlock.blk = Block.reset s.cfg := rfl

@[simp] theorem State.resetBlock_rsp (s : State) :
    s.resetBlock.rsp = s.rsp := rfl

@[simp] theorem State.resetBlock_io (s : State) :
    s.resetBlock.io = s.io := rfl

@[simp] theorem Block.countTick_ticks (b : Block) :
    b.countTick.ticks = b.ticks + 1 := rfl

@[simp] theorem Block.countTick_press (b : Block) :
    b.countTick.press = b.press := rfl

@[simp] theorem Block.countTick_running (b : Block) :
    b.countTick.running = b.running := rfl

@[simp] theorem Block.countTick_startTick (b : Block) :
    b.countTick.startTick = b.startTick := rfl

@[simp] theorem Block.countTick_lapStart (b : Block) :
    b.countTick.lapStart = b.lapStart := rfl

@[simp] theorem Block.countTick_laps (b : Block) :
    b.countTick.laps = b.laps := rfl

@[simp] theorem Block.countTick_lapCount (b : Block) :
    b.countTick.lapCount = b.lapCount := rfl

@[simp] theorem Block.countTick_tmr (b : Block) :
    b.countTick.tmr = b.tmr := rfl

@[simp] theorem Block.countTick_fault (b : Block) :
    b.countTick.fault = b.fault := rfl

@[simp] theorem Block.setPress_ticks (b : Block) (p : Bool) :
    (b.setPress p).ticks = b.ticks := rfl

@[simp] theorem Block.setPress_press (b : Block) (p : Bool) :
    (b.setPress p).press = p := rfl

@[simp] theorem Block.setPress_running (b : Block) (p : Bool) :
    (b.setPress p).running = b.running := rfl

@[simp] theorem Block.setPress_startTick (b : Block) (p : Bool) :
    (b.setPress p).startTick = b.startTick := rfl

@[simp] theorem Block.setPress_lapStart (b : Block) (p : Bool) :
    (b.setPress p).lapStart = b.lapStart := rfl

@[simp] theorem Block.setPress_laps (b : Block) (p : Bool) :
    (b.setPress p).laps = b.laps := rfl

@[simp] theorem Block.setPress_lapCount (b : Block) (p : Bool) :
    (b.setPress p).lapCount = b.lapCount := rfl

@[simp] theorem Block.setPress_tmr (b : Block) (p : Bool) :
    (b.setPress p).tmr = b.tmr := rfl

@[simp] theorem Block.setPress_fault (b : Block) (p : Bool) :
    (b.setPress p).fault = b.fault := rfl

@[simp] theorem Block.startRun_ticks (b : Block) (c : Cfg) (now : Tick) :
    (b.startRun c now).ticks = b.ticks := rfl

@[simp] theorem Block.startRun_press (b : Block) (c : Cfg) (now : Tick) :
    (b.startRun c now).press = b.press := rfl

@[simp] theorem Block.startRun_running (b : Block) (c : Cfg) (now : Tick) :
    (b.startRun c now).running = true := rfl

@[simp] theorem Block.startRun_startTick (b : Block) (c : Cfg) (now : Tick) :
    (b.startRun c now).startTick = now := rfl

@[simp] theorem Block.startRun_lapStart (b : Block) (c : Cfg) (now : Tick) :
    (b.startRun c now).lapStart = now := rfl

@[simp] theorem Block.startRun_laps (b : Block) (c : Cfg) (now : Tick) :
    (b.startRun c now).laps = List.replicate c.lapN 0 := rfl

@[simp] theorem Block.startRun_lapCount (b : Block) (c : Cfg) (now : Tick) :
    (b.startRun c now).lapCount = 0 := rfl

@[simp] theorem Block.startRun_tmr (b : Block) (c : Cfg) (now : Tick) :
    (b.startRun c now).tmr = b.tmr := rfl

@[simp] theorem Block.startRun_fault (b : Block) (c : Cfg) (now : Tick) :
    (b.startRun c now).fault = b.fault := rfl

@[simp] theorem Block.recordLap_ticks (b : Block) (now dur : Tick) :
    (b.recordLap now dur).ticks = b.ticks := rfl

@[simp] theorem Block.recordLap_press (b : Block) (now dur : Tick) :
    (b.recordLap now dur).press = b.press := rfl

@[simp] theorem Block.recordLap_running (b : Block) (now dur : Tick) :
    (b.recordLap now dur).running = b.running := rfl

@[simp] theorem Block.recordLap_startTick (b : Block) (now dur : Tick) :
    (b.recordLap now dur).startTick = b.startTick := rfl

@[simp] theorem Block.recordLap_lapStart (b : Block) (now dur : Tick) :
    (b.recordLap now dur).lapStart = now := rfl

@[simp] theorem Block.recordLap_laps (b : Block) (now dur : Tick) :
    (b.recordLap now dur).laps = b.laps.set b.lapCount.toNat dur := rfl

@[simp] theorem Block.recordLap_lapCount (b : Block) (now dur : Tick) :
    (b.recordLap now dur).lapCount = b.lapCount + 1 := rfl

@[simp] theorem Block.recordLap_tmr (b : Block) (now dur : Tick) :
    (b.recordLap now dur).tmr = b.tmr := rfl

@[simp] theorem Block.recordLap_fault (b : Block) (now dur : Tick) :
    (b.recordLap now dur).fault = b.fault := rfl

@[simp] theorem Block.setTimer_ticks (b : Block) (t : SharedTimer) :
    (b.setTimer t).ticks = b.ticks := rfl

@[simp] theorem Block.setTimer_press (b : Block) (t : SharedTimer) :
    (b.setTimer t).press = b.press := rfl

@[simp] theorem Block.setTimer_running (b : Block) (t : SharedTimer) :
    (b.setTimer t).running = b.running := rfl

@[simp] theorem Block.setTimer_startTick (b : Block) (t : SharedTimer) :
    (b.setTimer t).startTick = b.startTick := rfl

@[simp] theorem Block.setTimer_lapStart (b : Block) (t : SharedTimer) :
    (b.setTimer t).lapStart = b.lapStart := rfl

@[simp] theorem Block.setTimer_laps (b : Block) (t : SharedTimer) :
    (b.setTimer t).laps = b.laps := rfl

@[simp] theorem Block.setTimer_lapCount (b : Block) (t : SharedTimer) :
    (b.setTimer t).lapCount = b.lapCount := rfl

@[simp] theorem Block.setTimer_tmr (b : Block) (t : SharedTimer) :
    (b.setTimer t).tmr = t := rfl

@[simp] theorem Block.setTimer_fault (b : Block) (t : SharedTimer) :
    (b.setTimer t).fault = b.fault := rfl

@[simp] theorem Block.latchFault_ticks (b : Block) :
    b.latchFault.ticks = b.ticks := rfl

@[simp] theorem Block.latchFault_press (b : Block) :
    b.latchFault.press = b.press := rfl

@[simp] theorem Block.latchFault_running (b : Block) :
    b.latchFault.running = b.running := rfl

@[simp] theorem Block.latchFault_startTick (b : Block) :
    b.latchFault.startTick = b.startTick := rfl

@[simp] theorem Block.latchFault_lapStart (b : Block) :
    b.latchFault.lapStart = b.lapStart := rfl

@[simp] theorem Block.latchFault_laps (b : Block) :
    b.latchFault.laps = b.laps := rfl

@[simp] theorem Block.latchFault_lapCount (b : Block) :
    b.latchFault.lapCount = b.lapCount := rfl

@[simp] theorem Block.latchFault_tmr (b : Block) :
    b.latchFault.tmr = SharedTimer.idle := rfl

@[simp] theorem Block.latchFault_fault (b : Block) :
    b.latchFault.fault = true := rfl

@[simp] theorem State.offer_cfg (s : State) (ts : List Instant) :
    (s.offer ts).cfg = s.cfg := rfl

@[simp] theorem State.offer_blk (s : State) (ts : List Instant) :
    (s.offer ts).blk = s.blk := rfl

@[simp] theorem State.offer_rsp (s : State) (ts : List Instant) :
    (s.offer ts).rsp = s.rsp := rfl

@[simp] theorem State.offer_io (s : State) (ts : List Instant) :
    (s.offer ts).io = { s.io with coming := s.io.coming ++ ts } := rfl

@[simp] theorem Io.show_cmd (p : Io) (t : Instant) :
    (p.show t).cmd = t.cmd := rfl

@[simp] theorem Io.show_cfgOk (p : Io) (t : Instant) :
    (p.show t).cfgOk = t.cfgOk := rfl

@[simp] theorem Io.show_evt (p : Io) (t : Instant) :
    (p.show t).evt = t.events p.btn := rfl

@[simp] theorem Io.show_btn (p : Io) (t : Instant) :
    (p.show t).btn = t.btn := rfl

@[simp] theorem Io.show_coming (p : Io) (t : Instant) :
    (p.show t).coming = p.coming := rfl

@[simp] theorem Io.show_later (p : Io) (t : Instant) :
    (p.show t).later = p.later := rfl

@[simp] theorem Io.show_draws (p : Io) (t : Instant) :
    (p.show t).draws = p.draws := rfl

end Sys2Proof.Machine
end

