-- ==== Sys2Proof/Laws/Ops.lean ====
section
/-! SUPPORT. One lemma per shared operation that says everything it can do, cited instead of unfolding it. -/

namespace Sys2Proof.Machine

theorem State.command_halted {s : State} {r : Host.Outcome State Fault Refusal} (h : s.blk.fault = true) :
    s.command r = .next (s.respond .halted 0 0) := by
  simp [State.command, h]

theorem State.command_rule {s : State} {r : Host.Outcome State Fault Refusal} (h : s.blk.fault = false) :
    s.command r = r := by
  simp [State.command, h]

theorem State.command_cases (s : State) (r : Host.Outcome State Fault Refusal) :
    (s.blk.fault = true ∧ s.command r = .next (s.respond .halted 0 0)) ∨
      (s.blk.fault = false ∧ s.command r = r) := by
  cases h : s.blk.fault
  · exact .inr ⟨rfl, State.command_rule h⟩
  · exact .inl ⟨rfl, State.command_halted h⟩

theorem State.configure_accepted {s : State} {t : SharedTimer} {d : Data} (h : s.io.cfgOk = true) :
    s.configure t d = .next ((s.setBlk (s.blk.setTimer t)).respond .ok d 0) := by
  simp [State.configure, h]

theorem State.configure_failed {s : State} {t : SharedTimer} {d : Data} (h : s.io.cfgOk = false) :
    s.configure t d = .next s.raiseCfgFail := by
  simp [State.configure, h]

theorem State.configureReading_refused {s : State} {mv : Data} {t : SharedTimer} {d : Data}
    (h : s.cfg.vrefMv < mv.toNat) : s.configureReading mv t d = .refused (.readingAboveVref mv) := by
  simp [State.configureReading, h]

theorem State.configureReading_inRange {s : State} {mv : Data} {t : SharedTimer} {d : Data}
    (h : mv.toNat ≤ s.cfg.vrefMv) : s.configureReading mv t d = s.configure t d := by
  simp [State.configureReading, Nat.not_lt.mpr h]

/-- A configuration either writes exactly the seven timer elements or takes `CfgFail`. -/
theorem State.configure_cases (s : State) (t : SharedTimer) (d : Data) :
    (s.io.cfgOk = true ∧ s.configure t d = .next ((s.setBlk (s.blk.setTimer t)).respond .ok d 0)) ∨
      (s.io.cfgOk = false ∧ s.configure t d = .next s.raiseCfgFail) := by
  cases h : s.io.cfgOk
  · exact .inr ⟨rfl, State.configure_failed h⟩
  · exact .inl ⟨rfl, State.configure_accepted h⟩

/-- A configuration from a reading is refused above `VREF_MV`, and else a configuration. -/
theorem State.configureReading_cases (s : State) (mv : Data) (t : SharedTimer) (d : Data) :
    (s.cfg.vrefMv < mv.toNat ∧ s.configureReading mv t d = .refused (.readingAboveVref mv)) ∨
      (mv.toNat ≤ s.cfg.vrefMv ∧ s.configureReading mv t d = s.configure t d) := by
  by_cases h : s.cfg.vrefMv < mv.toNat
  · exact .inl ⟨h, State.configureReading_refused h⟩
  · exact .inr ⟨Nat.not_lt.mp h, State.configureReading_inRange (Nat.not_lt.mp h)⟩

/-- A reserved word is answered HALTED or ILLEGAL, and nothing else happens. -/
theorem execReserved_cases (s : State) :
    (s.blk.fault = true ∧ execReserved s = .next (s.respond .halted 0 0)) ∨
      (s.blk.fault = false ∧ execReserved s = .next (s.respond .illegal 0 0)) :=
  s.command_cases _

/-- The transition of a taken press is one of the three rows of R100. -/
theorem State.pressTransition_cases (s : State) :
    (s.blk.running = false ∧ s.pressTransition =
        (s.setBlk ((s.blk.setPress false).startRun s.cfg s.blk.ticks)).respond .ok 1 s.blk.ticks) ∨
    (s.blk.running = true ∧ s.lapRoom = true ∧ s.pressTransition =
        (s.setBlk ((s.blk.setPress false).recordLap s.blk.ticks s.blk.lapElapsed)).respond .ok 2 s.blk.lapElapsed) ∨
    (s.blk.running = true ∧ s.lapRoom = false ∧ s.pressTransition =
        (s.setBlk (s.blk.setPress false)).respond .full 0 0) := by
  cases h : s.blk.running <;> cases g : s.lapRoom <;> simp [State.pressTransition, h, g]

/-- `SW_UPDATE` answers and writes nothing of the block. -/
theorem State.updateAnswer_eq (s : State) : ∃ r, s.updateAnswer = { s with rsp := some r } := by
  unfold State.updateAnswer
  split
  · exact ⟨_, rfl⟩
  · split <;> exact ⟨_, rfl⟩

/-- Every assigned selector names a status register, and only those do. -/
theorem statusRegOf_isSome (sel : BitVec 8) : (statusRegOf sel).isSome = selectorAssigned sel := by
  revert sel
  decide

end Sys2Proof.Machine
end

