-- ==== Sys2Proof/Laws/Exec.lean ====
section
/-! SUPPORT. What an instruction can do to the block, said once: every next state of `exec` keeps the configuration and the input
ports, and its block is one of the effects below. Invariants are derived from this, not by unfolding `exec`. -/

namespace Sys2Proof.Machine

/-- The commands that write nothing of the block (R48). -/
def readsOnly : Instr → Bool
  | .nop | .rd _ | .swUpdate | .lapRd _ | .fmt _ => true
  | .takePress | .swPress | .cfgTick | .cfgBlink _ | .cfgDim _ | .tick | .edge | .reset => false

/-- The events (R68). -/
def isEvent : Instr → Bool
  | .tick | .edge | .reset => true
  | .nop | .rd _ | .takePress | .swPress | .swUpdate | .lapRd _ | .fmt _ | .cfgTick | .cfgBlink _ | .cfgDim _ => false

/-- The three configuration commands. -/
def configuresTimer : Instr → Bool
  | .cfgTick | .cfgBlink _ | .cfgDim _ => true
  | .nop | .rd _ | .takePress | .swPress | .swUpdate | .lapRd _ | .fmt _ | .tick | .edge | .reset => false

/-- The blocks an instruction can leave in a next state of `exec`. -/
inductive Effect (s : State) : Instr → Block → Prop
  | unchanged (i : Instr) : isEvent i = false → (s.blk.fault = true ∨ readsOnly i = true) → Effect s i s.blk
  | ticked : Effect s .tick s.blk.countTick
  | pressed : Effect s .edge (s.blk.setPress true)
  | resetDone : Effect s .reset (Block.reset s.cfg)
  | taken : s.blk.fault = false → Effect s .takePress (s.blk.setPress false)
  | noPress : s.blk.fault = false → s.blk.press = false → Effect s .swPress (s.blk.setPress false)
  | started : s.blk.fault = false → s.blk.press = true → s.blk.running = false →
      Effect s .swPress ((s.blk.setPress false).startRun s.cfg s.blk.ticks)
  | lapped : s.blk.fault = false → s.blk.press = true → s.blk.running = true → s.lapRoom = true →
      Effect s .swPress ((s.blk.setPress false).recordLap s.blk.ticks s.blk.lapElapsed)
  | full : s.blk.fault = false → s.blk.press = true → s.blk.running = true → s.lapRoom = false →
      Effect s .swPress (s.blk.setPress false)
  | tickMode : s.blk.fault = false → s.io.cfgOk = true →
      Effect s .cfgTick (s.blk.setTimer (SharedTimer.forTick s.cfg))
  | blinkMode (mv : Data) : s.blk.fault = false → s.io.cfgOk = true → mv.toNat ≤ s.cfg.vrefMv →
      Effect s (.cfgBlink mv) (s.blk.setTimer (SharedTimer.forBlink s.cfg mv.toNat))
  | dimMode (mv : Data) : s.blk.fault = false → s.io.cfgOk = true → mv.toNat ≤ s.cfg.vrefMv →
      Effect s (.cfgDim mv) (s.blk.setTimer (SharedTimer.forDim s.cfg mv.toNat))
  | failed (i : Instr) : s.blk.fault = false → s.io.cfgOk = false → configuresTimer i = true →
      Effect s i s.blk.latchFault

/-- The inversion of `exec`. -/
theorem exec_effect {i : Instr} {s t : State} (h : exec i s = .next t) :
    t.cfg = s.cfg ∧ t.io = s.io ∧ Effect s i t.blk := by
  have reads : ∀ {j : Instr} {r : Host.Outcome State Fault Refusal}, isEvent j = false → readsOnly j = true →
      (∀ u, r = .next u → u.cfg = s.cfg ∧ u.io = s.io ∧ u.blk = s.blk) → s.command r = .next t →
      t.cfg = s.cfg ∧ t.io = s.io ∧ Effect s j t.blk := by
    intro j r hj hr hu hc
    obtain ⟨hf, e⟩ | ⟨hf, e⟩ := s.command_cases r
    · rw [e] at hc
      cases hc
      exact ⟨rfl, rfl, .unchanged j hj (.inl hf)⟩
    · rw [e] at hc
      obtain ⟨h1, h2, h3⟩ := hu t hc
      exact ⟨h1, h2, h3 ▸ .unchanged j hj (.inr hr)⟩
  have rule : ∀ {j : Instr} {r : Host.Outcome State Fault Refusal}, isEvent j = false →
      (s.blk.fault = false → r = .next t → t.cfg = s.cfg ∧ t.io = s.io ∧ Effect s j t.blk) → s.command r = .next t →
      t.cfg = s.cfg ∧ t.io = s.io ∧ Effect s j t.blk := by
    intro j r hj hu hc
    obtain ⟨hf, e⟩ | ⟨hf, e⟩ := s.command_cases r
    · rw [e] at hc
      cases hc
      exact ⟨rfl, rfl, .unchanged j hj (.inl hf)⟩
    · exact hu hf (e ▸ hc)
  have conf : ∀ {j : Instr} {tm : SharedTimer} {d : Data}, configuresTimer j = true → s.blk.fault = false →
      (s.io.cfgOk = true → Effect s j (s.blk.setTimer tm)) → s.configure tm d = .next t →
      t.cfg = s.cfg ∧ t.io = s.io ∧ Effect s j t.blk := by
    intro j tm d hj hf hu hc
    obtain ⟨ok, e⟩ | ⟨bad, e⟩ := s.configure_cases tm d
    · rw [e] at hc
      cases hc
      exact ⟨rfl, rfl, hu ok⟩
    · rw [e] at hc
      cases hc
      exact ⟨rfl, rfl, .failed j hf bad hj⟩
  cases i with
  | nop => exact reads rfl rfl (by rintro u ⟨⟩; exact ⟨rfl, rfl, rfl⟩) h
  | rd sel =>
    simp only [exec, execRd] at h
    split at h
    · exact reads rfl rfl (by rintro u ⟨⟩; exact ⟨rfl, rfl, rfl⟩) h
    · exact reads rfl rfl (by rintro u ⟨⟩; exact ⟨rfl, rfl, rfl⟩) h
  | takePress => exact rule rfl (by rintro hf ⟨⟩; exact ⟨rfl, rfl, .taken hf⟩) h
  | swPress =>
    refine rule rfl ?_ h
    intro hf e
    split at e
    · rename_i hp
      obtain ⟨hr, eq⟩ | ⟨hr, hl, eq⟩ | ⟨hr, hl, eq⟩ := s.pressTransition_cases <;> rw [eq] at e <;> cases e
      · exact ⟨rfl, rfl, .started hf hp hr⟩
      · exact ⟨rfl, rfl, .lapped hf hp hr hl⟩
      · exact ⟨rfl, rfl, .full hf hp hr hl⟩
    · rename_i hp
      cases e
      exact ⟨rfl, rfl, .noPress hf (by simpa using hp)⟩
  | swUpdate =>
    refine reads rfl rfl ?_ h
    rintro u ⟨⟩
    obtain ⟨r, e⟩ := s.updateAnswer_eq
    rw [e]
    exact ⟨rfl, rfl, rfl⟩
  | lapRd i =>
    refine reads rfl rfl ?_ h
    rintro u ⟨⟩
    split <;> exact ⟨rfl, rfl, rfl⟩
  | fmt v => exact reads rfl rfl (by rintro u ⟨⟩; exact ⟨rfl, rfl, rfl⟩) h
  | cfgTick => exact rule rfl (fun hf e => conf rfl hf (.tickMode hf) e) h
  | cfgBlink mv =>
    refine rule rfl (fun hf e => ?_) h
    obtain ⟨-, eq⟩ | ⟨hm, eq⟩ := s.configureReading_cases mv (SharedTimer.forBlink s.cfg mv.toNat)
      (BitVec.ofNat 32 (blinkMhz s.cfg mv.toNat)) <;> rw [eq] at e
    · cases e
    · exact conf rfl hf (fun ok => .blinkMode mv hf ok hm) e
  | cfgDim mv =>
    refine rule rfl (fun hf e => ?_) h
    obtain ⟨-, eq⟩ | ⟨hm, eq⟩ := s.configureReading_cases mv (SharedTimer.forDim s.cfg mv.toNat)
      (BitVec.ofNat 32 (dutyPct s.cfg mv.toNat)) <;> rw [eq] at e
    · cases e
    · exact conf rfl hf (fun ok => .dimMode mv hf ok hm) e
  | tick => cases h; exact ⟨rfl, rfl, .ticked⟩
  | edge => cases h; exact ⟨rfl, rfl, .pressed⟩
  | reset => cases h; exact ⟨rfl, rfl, .resetDone⟩

end Sys2Proof.Machine
end

