-- ==== Sys2Proof/Laws/Fetch.lean ====
section
/-! SUPPORT. What serving an arrival can do: the word served is one of those that wait. -/

namespace Sys2Proof.Machine

theorem Io.choice_lt {p : Io} (h : p.ready ≠ []) : p.choice < p.ready.length := by
  have : 0 < p.ready.length := List.length_pos_of_ne_nil h
  unfold Io.choice
  split
  · exact this
  · exact Nat.mod_lt _ this

/-- Nothing is served exactly when nothing waits; else one of the waiting arrivals is served and taken. -/
theorem Io.serve_cases (p : Io) :
    (p.ready = [] ∧ p.serve = (none, p)) ∨ ∃ w ∈ p.ready, p.serve = (some w, p.drawn.taken w) := by
  by_cases h : p.ready = []
  · exact .inl ⟨h, by simp [Io.serve, h]⟩
  · have hl := Io.choice_lt h
    exact .inr ⟨p.ready[p.choice], List.getElem_mem hl, by simp [Io.serve, hl]⟩

/-- The next instant presented is the first one listed, or the next one of the free arrivals. -/
theorem Io.present_cases (p : Io) :
    (∃ t rest, p.coming = t :: rest ∧ p.present = { p.show t with coming := rest }) ∨
      (p.coming = [] ∧ p.present = { p.show (Config.arrivals p.later) with later := p.later + 1 }) := by
  cases h : p.coming with
  | nil => exact .inr ⟨rfl, by simp [Io.present, h]⟩
  | cons t rest => exact .inl ⟨t, rest, rfl, by simp [Io.present, h]⟩

end Sys2Proof.Machine
end

