-- ==== Sys2Proof/Laws/PerInstr.lean ====
section
/-! SUPPORT. The family EncodedOpcode: the encoded word of every instruction carries the opcode of its row (R65), and an event is
its own pin (R68). -/

namespace Sys2Proof.Laws

/-- A command word as a number: the opcode above the argument (R60). -/
theorem commandWord_toNat (op : BitVec 8) (arg : Data) :
    (commandWord op arg).toNat = op.toNat * 2 ^ 32 + arg.toNat := by
  have h : (op ++ arg : BitVec (8 + 32)).toNat = op.toNat * 2 ^ 32 + arg.toNat := by
    rw [BitVec.toNat_append, ← Nat.shiftLeft_add_eq_or_of_lt arg.isLt, Nat.shiftLeft_eq]
  exact h

/-- The opcode field of a command word is its opcode. -/
@[simp] theorem opOf_commandWord (op : BitVec 8) (arg : Data) : opOf (commandWord op arg) = op := by
  apply BitVec.eq_of_toNat_eq
  have h1 := op.isLt
  have h2 := arg.isLt
  rw [opOf, BitVec.extractLsb'_toNat, commandWord_toNat, Nat.shiftRight_eq_div_pow]
  omega

/-- The argument field of a command word is its argument. -/
@[simp] theorem argOf_commandWord (op : BitVec 8) (arg : Data) : argOf (commandWord op arg) = arg := by
  apply BitVec.eq_of_toNat_eq
  have h2 := arg.isLt
  rw [argOf, BitVec.extractLsb'_toNat, commandWord_toNat, Nat.shiftRight_eq_div_pow]
  omega

/-- The opcode a row of R65 has; `none` for the events. -/
def opcodeOf : Instr → Option (BitVec 8)
  | .nop => some 0x00#8
  | .rd _ => some 0x01#8
  | .takePress => some 0x02#8
  | .swPress => some 0x10#8
  | .swUpdate => some 0x11#8
  | .lapRd _ => some 0x12#8
  | .fmt _ => some 0x13#8
  | .cfgTick => some 0x20#8
  | .cfgBlink _ => some 0x21#8
  | .cfgDim _ => some 0x22#8
  | .tick | .edge | .reset => none

/-- The opcode field of what stands at the ports; `none` for an event. -/
def portOpcode : PortWord → Option (BitVec 8)
  | .command w => some (opOf w)
  | .event _ => none

def EncodedOpcode.Statement (i : Instr) : Prop := portOpcode (encode i) = opcodeOf i

theorem EncodedOpcode.nop : EncodedOpcode.Statement .nop := by simp [EncodedOpcode.Statement, encode, portOpcode, opcodeOf]
theorem EncodedOpcode.rd (sel : BitVec 8) : EncodedOpcode.Statement (.rd sel) := by
  simp [EncodedOpcode.Statement, encode, portOpcode, opcodeOf, commandWordS]
theorem EncodedOpcode.takePress : EncodedOpcode.Statement .takePress := by
  simp [EncodedOpcode.Statement, encode, portOpcode, opcodeOf]
theorem EncodedOpcode.swPress : EncodedOpcode.Statement .swPress := by
  simp [EncodedOpcode.Statement, encode, portOpcode, opcodeOf]
theorem EncodedOpcode.swUpdate : EncodedOpcode.Statement .swUpdate := by
  simp [EncodedOpcode.Statement, encode, portOpcode, opcodeOf]
theorem EncodedOpcode.lapRd (i : BitVec 8) : EncodedOpcode.Statement (.lapRd i) := by
  simp [EncodedOpcode.Statement, encode, portOpcode, opcodeOf, commandWordS]
theorem EncodedOpcode.fmt (v : Data) : EncodedOpcode.Statement (.fmt v) := by
  simp [EncodedOpcode.Statement, encode, portOpcode, opcodeOf]
theorem EncodedOpcode.cfgTick : EncodedOpcode.Statement .cfgTick := by
  simp [EncodedOpcode.Statement, encode, portOpcode, opcodeOf]
theorem EncodedOpcode.cfgBlink (mv : Data) : EncodedOpcode.Statement (.cfgBlink mv) := by
  simp [EncodedOpcode.Statement, encode, portOpcode, opcodeOf]
theorem EncodedOpcode.cfgDim (mv : Data) : EncodedOpcode.Statement (.cfgDim mv) := by
  simp [EncodedOpcode.Statement, encode, portOpcode, opcodeOf]
theorem EncodedOpcode.tick : EncodedOpcode.Statement .tick := rfl
theorem EncodedOpcode.edge : EncodedOpcode.Statement .edge := rfl
theorem EncodedOpcode.reset : EncodedOpcode.Statement .reset := rfl

end Sys2Proof.Laws
end

