-- ==== Sys2Proof/Laws/Trace.lean ====
section
/-! SUPPORT. What a step with its draw and a sequence of such steps can do. -/

namespace Sys2Proof.Machine

/-- The inversion of a step with its draw: the draw stands at `cfg_ok_i` after it, the rest of the ports is unchanged. -/
theorem TraceStep.run_effect {u : TraceStep} {s t : State} (h : u.run s = .next t) :
    t.cfg = s.cfg ∧ t.io = { s.io with cfgOk := u.cfgOk } ∧ Effect (s.setCfgOk u.cfgOk) u.instr t.blk :=
  exec_effect h

@[simp] theorem runTrace_nil (s : State) : runTrace [] s = .next s := rfl

/-- A sequence reaches a state exactly when its first step does and the rest goes on from there. -/
theorem runTrace_cons_next {u : TraceStep} {ts : List TraceStep} {s t : State} :
    runTrace (u :: ts) s = .next t ↔ ∃ v, u.run s = .next v ∧ runTrace ts v = .next t := by
  simp only [runTrace]
  cases u.run s <;> simp

/-- Two sequences one after the other. -/
theorem runTrace_append_next {ts us : List TraceStep} {s t : State} :
    runTrace (ts ++ us) s = .next t ↔ ∃ v, runTrace ts s = .next v ∧ runTrace us v = .next t := by
  induction ts generalizing s with
  | nil => simp
  | cons u ts ih =>
    simp only [List.cons_append, runTrace_cons_next, ih]
    exact ⟨fun ⟨x, hx, v, hv, ht⟩ => ⟨v, ⟨x, hx, hv⟩, ht⟩, fun ⟨v, ⟨x, hx, hv⟩, ht⟩ => ⟨x, hx, v, hv, ht⟩⟩

/-- With the present level as the draw of every step, the execution is `runInstrs`. -/
theorem runTrace_constant (is : List Instr) (s : State) :
    runTrace (is.map (fun i => { instr := i, cfgOk := s.io.cfgOk })) s = runInstrs is s := by
  induction is generalizing s with
  | nil => rfl
  | cons i is ih =>
    have hs : s.setCfgOk s.io.cfgOk = s := rfl
    simp only [List.map_cons, runTrace, runInstrs, TraceStep.run, hs]
    cases h : exec i s with
    | next t => simpa only [(exec_effect h).2.1] using ih t
    | fault f => rfl
    | refused r => rfl

end Sys2Proof.Machine
end

