-- ==== Sys2Proof/Tests/Slice0.lean ====
section
/-! SUPPORT. The model's own tests: the vectors of 95_test_vectors.md on one step each, and for every statement with hypotheses a
concrete state that meets them. -/

namespace Sys2Proof.Tests

open Sys2Proof Sys2Proof.Machine

/-- The outcome of a step, for a test to look at. -/
def nextOf (o : Host.Outcome State Fault Refusal) : Option State :=
  match o with
  | .next t => some t
  | .fault _ => none
  | .refused _ => none

/-- The answer of one instruction. -/
def answer (i : Instr) (s : State) : Option Response := (nextOf (exec i s)).bind (fun t => t.rsp)

/-- The block after one instruction. -/
def after (i : Instr) (s : State) : Option Block := (nextOf (exec i s)).map (fun t => t.blk)

/-- The reset state under `REF`, with the block `b`. -/
def withBlock (b : Block) : State := { State.resetIn Cfg.ref with blk := b }

/-- The block after reset under `REF`. -/
def zero : Block := Block.reset Cfg.ref

/-- A running stopwatch with two laps, in the middle of the third. -/
def twoLaps : Block :=
  { zero with ticks := 1500, running := true, lapStart := 1200, laps := [500, 700, 0, 0], lapCount := 2 }

/-- A running stopwatch with a full lap table. -/
def fullLaps : Block :=
  { zero with ticks := 6400, running := true, lapStart := 6351, laps := [500, 700, 151, 5000], lapCount := 4 }

/-- The shared timer after `CFG_BLINK 1650` under `REF`. -/
def blinking : SharedTimer :=
  { mode := .blink, prescaler := 2909, period := 1000, pulse := 500, chEn := true, freqMhz := 5500, dutyPct := 0 }

/-- The start of 95_test_vectors.md B5. -/
def beforeFault : Block := { zero with ticks := 10, running := true, press := true, tmr := blinking }

/-- The block of `beforeFault` after `CfgFail`. -/
def halted : Block := { beforeFault with tmr := SharedTimer.idle, fault := true }

/-- The configuration `ALT` of 95_test_vectors.md B4. -/
def alt : Cfg where
  lapN := 4
  vrefMv := 3000
  fInHz := 8000000
  cntHz := 250000
  blinkPeriod := 500
  tickCentiDiv := 1
  ok := by decide

/-- A state whose peripheral rejects the next configuration. -/
def failing (b : Block) : State := (withBlock b).setCfgOk false

/-- Steps whose peripheral accepts every configuration. -/
def accepted (is : List Instr) : List TraceStep := is.map (fun i => { instr := i })

/-- A configuration the peripheral accepts, then one it rejects (R162). -/
def acceptThenReject : List TraceStep := [{ instr := .cfgTick }, { instr := .cfgDim 0#32, cfgOk := false }]

/- Well-formedness: an ill-formed term for each check (R3, R70 d). -/

theorem test_wf_ref : Cfg.ref.toParams.WellFormed := by decide
theorem test_wf_noLaps : ¬ { Cfg.ref.toParams with lapN := 0 }.WellFormed := by decide
theorem test_wf_tooManyLaps : ¬ { Cfg.ref.toParams with lapN := 256 }.LapCapacityOk := by decide
theorem test_wf_noReference : ¬ { Cfg.ref.toParams with vrefMv := 0 }.VrefOk := by decide
theorem test_wf_wideReference : ¬ { Cfg.ref.toParams with vrefMv := 2 ^ 32 }.VrefOk := by decide
theorem test_wf_slowInput : ¬ { Cfg.ref.toParams with fInHz := 999999 }.PrescalerOk := by decide
theorem test_wf_fastInput : ¬ { Cfg.ref.toParams with fInHz := 65536000000 }.PrescalerOk := by decide
theorem test_wf_carrier : ¬ { Cfg.ref.toParams with cntHz := 999 }.CarrierOk := by decide
theorem test_wf_tickPeriod : ¬ { Cfg.ref.toParams with cntHz := 6553600 }.TickPeriodOk := by decide
theorem test_wf_oddBlinkPeriod : ¬ { Cfg.ref.toParams with blinkPeriod := 999 }.BlinkPeriodOk := by decide
theorem test_wf_wideBlinkPeriod : ¬ { Cfg.ref.toParams with blinkPeriod := 65536 }.BlinkPeriodOk := by decide
theorem test_wf_blinkPrescaler : ¬ { Cfg.ref.toParams with blinkPeriod := 200 }.BlinkPrescalerOk := by decide
theorem test_wf_centiDiv : ¬ { Cfg.ref.toParams with tickCentiDiv := 0 }.CentiDivOk := by decide
theorem test_wf_lastSelector : (Instr.rd 9#8).wellFormed = true := by decide
theorem test_wf_reservedSelector : (Instr.rd 10#8).wellFormed = false := by decide

/- Decoding: words written out from R65's bit patterns (95_test_vectors.md B1). -/

theorem test_decode_nop : decodeCommand 0b0000000000000000000000000000000000000000#40 = .ok .nop := by decide
theorem test_decode_nop_operand : decodeCommand 0x0000000001#40 = .error (.argumentNotZero 0#8) := by decide
theorem test_decode_rd : decodeCommand 0b0000000100000000000000000000000000001001#40 = .ok (.rd 9#8) := by decide
theorem test_decode_rd_reserved : decodeCommand 0x010000000A#40 = .error (.reservedSelector 10#8) := by decide
theorem test_decode_rd_high : decodeCommand 0x0100000100#40 = .error (.argumentHighBitsNotZero 1#8) := by decide
theorem test_decode_takePress : decodeCommand 0b0000001000000000000000000000000000000000#40 = .ok .takePress := by
  decide
theorem test_decode_unassigned_low : decodeCommand 0x0300000000#40 = .error (.unassignedOpcode 3#8) := by decide
theorem test_decode_swPress : decodeCommand 0b0001000000000000000000000000000000000000#40 = .ok .swPress := by decide
theorem test_decode_swPress_operand : decodeCommand 0x1000000005#40 = .error (.argumentNotZero 0x10#8) := by decide
theorem test_decode_swUpdate : decodeCommand 0b0001000100000000000000000000000000000000#40 = .ok .swUpdate := by
  decide
theorem test_decode_lapRd : decodeCommand 0b0001001000000000000000000000000011111111#40 = .ok (.lapRd 255#8) := by
  decide
theorem test_decode_lapRd_high : decodeCommand 0x12000001FF#40 = .error (.argumentHighBitsNotZero 0x12#8) := by
  decide
theorem test_decode_fmt : decodeCommand 0b0001001100000000000010010010011111000000#40 = .ok (.fmt 600000#32) := by
  decide
theorem test_decode_cfgTick : decodeCommand 0b0010000000000000000000000000000000000000#40 = .ok .cfgTick := by decide
theorem test_decode_cfgBlink : decodeCommand 0b0010000100000000000000000000110011100011#40 = .ok (.cfgBlink 3299#32) := by
  decide
theorem test_decode_cfgDim : decodeCommand 0b0010001000000000000000000000000000100001#40 = .ok (.cfgDim 33#32) := by
  decide
theorem test_decode_unassigned_high : decodeCommand 0xFFFFFFFFFF#40 = .error (.unassignedOpcode 255#8) := by decide
theorem test_decode_tick : decodeEvent 0b001#3 = .ok .tick := by decide
theorem test_decode_edge : decodeEvent 0b010#3 = .ok .edge := by decide
theorem test_decode_reset : decodeEvent 0b100#3 = .ok .reset := by decide
theorem test_decode_noEvent : decodeEvent 0b000#3 = .error .noEvent := by decide
theorem test_decode_severalEvents : decodeEvent 0b011#3 = .error (.severalEvents 3#3) := by decide
theorem test_tableWord_command : decodeTableWord 40 0x2100000672 = some (.cfgBlink 1650#32) := by decide
theorem test_tableWord_event : decodeTableWord 8 4 = some .reset := by decide
theorem test_tableWord_reserved : decodeTableWord 40 0x1400000000 = none := by decide

/- A step fetches and runs the presented instruction. -/

theorem test_step_command : ((nextOf (step (State.reset.withFetchWord 40 0x2100000672))).bind (fun t => t.rsp)) =
    some ⟨.ok, 5500, 0⟩ := by rfl
theorem test_step_event : ((nextOf (step (State.reset.withFetchWord 8 1))).map (fun t => t.blk)) =
    some { zero with ticks := 1 } := by rfl
theorem test_step_reserved : ((nextOf (step (State.reset.withFetchWord 40 0x1000000005))).bind (fun t => t.rsp)) =
    some ⟨.illegal, 0, 0⟩ := by rfl

/- One step of each instruction (95_test_vectors.md). -/

theorem test_nop : exec .nop (withBlock { zero with press := true }) =
    .next { withBlock { zero with press := true } with rsp := some ⟨.ok, 0, 0⟩ } := by rfl
theorem test_rd_swStatus : answer (.rd 0x01#8) (withBlock twoLaps) = some ⟨.ok, 0x00000201, 0⟩ := by decide
theorem test_rd_tmrMode : answer (.rd 0x04#8) (withBlock beforeFault) = some ⟨.ok, 0x00000012, 0⟩ := by decide
theorem test_takePress_set : after .takePress (withBlock { zero with press := true }) = some zero := by decide
theorem test_takePress_answers : answer .takePress (withBlock { zero with press := true }) = some ⟨.ok, 1, 0⟩ := by
  decide
theorem test_swPress_wraps :
    after .swPress (withBlock { zero with press := true, running := true, ticks := 0x100, lapStart := 0xFFFFFF00 }) =
      some { zero with running := true, ticks := 0x100, lapStart := 0x100, laps := [512, 0, 0, 0], lapCount := 1 } := by
  decide
theorem test_swPress_full : answer .swPress (withBlock { fullLaps with press := true }) = some ⟨.full, 0, 0⟩ := by
  decide
theorem test_swUpdate_wraps :
    answer .swUpdate (withBlock { zero with running := true, ticks := 0x10, startTick := 0xFFFFFFF0, lapStart := 8,
                                            lapCount := 2 }) = some ⟨.ok, 0x20, 8⟩ := by decide
theorem test_swUpdate_full : answer .swUpdate (withBlock fullLaps) = some ⟨.full, 6400, 0⟩ := by decide
theorem test_lapRd_recorded : answer (.lapRd 1#8) (withBlock twoLaps) = some ⟨.ok, 700, 0⟩ := by decide
theorem test_lapRd_outside : answer (.lapRd 4#8) (withBlock fullLaps) = some ⟨.empty, 0, 0⟩ := by decide
theorem test_fmt : answer (.fmt 6723#32) State.reset = some ⟨.ok, 0x00000717, 1⟩ := by decide
theorem test_fmt_largest : answer (.fmt 4294967295#32) State.reset = some ⟨.ok, 0x0000345F, 715827⟩ := by decide
theorem test_cfgTick : after .cfgTick (State.resetIn alt) = some { zero with tmr :=
    { mode := .tick, prescaler := 32, period := 2500, pulse := 0, chEn := false, freqMhz := 0, dutyPct := 0 } } := by
  decide
theorem test_cfgTick_fails : after .cfgTick (failing beforeFault) = some halted := by decide
theorem test_cfgBlink : after (.cfgBlink 1650#32) State.reset = some { zero with tmr := blinking } := by decide
theorem test_cfgBlink_above : exec (.cfgBlink 3301#32) State.reset = .refused (.readingAboveVref 3301#32) := by rfl
theorem test_cfgDim : after (.cfgDim 2999#32) (State.resetIn alt) = some { zero with tmr :=
    { mode := .dim, prescaler := 32, period := 250, pulse := 247, chEn := true, freqMhz := 0, dutyPct := 99 } } := by
  decide
theorem test_cfgDim_fails : answer (.cfgDim 1650#32) (failing beforeFault) = some ⟨.cfgFail, 0, 0⟩ := by decide
theorem test_tick_wraps : after .tick (withBlock { zero with ticks := 0xFFFFFFFF }) = some zero := by decide
theorem test_tick_halted : after .tick (withBlock halted) = some { halted with ticks := 11 } := by decide
theorem test_edge : after .edge State.reset = some { zero with press := true } := by decide
theorem test_reset : after .reset (withBlock halted) = some zero := by decide
theorem test_swPress_halted : after .swPress (withBlock halted) = some halted := by decide

/- The Host's side. -/

theorem test_text : timeText 6723 = some ['0', '1', ':', '0', '7', '.', '2', '3'] := by decide
theorem test_text_last : timeText 599999 = some ['9', '9', ':', '5', '9', '.', '9', '9'] := by decide
theorem test_lapRowY : [0, 1, 2, 3].map lapRowY = [30, 50, 70, 90] := by decide

/- Witnesses: for each statement with hypotheses, a state and operands that meet them. -/

/-- A block meets the invariants of the lap table when its listed entries do. -/
theorem lapTableOk_of {b : Block} {c : Cfg} (h1 : b.laps.length = c.lapN) (h2 : b.lapCount.toNat ≤ c.lapN)
    (h3 : b.running = false → b.lapCount = 0) (h4 : ∀ i < c.lapN, b.lapCount.toNat ≤ i → b.lap i = 0) :
    b.LapTableOk c := by
  refine ⟨h1, h2, h3, fun i hi => ?_⟩
  by_cases h : i < c.lapN
  · exact h4 i h hi
  · simp [Block.lap, List.getD, List.getElem?_eq_none (by omega : b.laps.length ≤ i)]

theorem twoLaps_table : twoLaps.LapTableOk Cfg.ref := lapTableOk_of rfl (by decide) (by decide) (by decide)
theorem fullLaps_table : fullLaps.LapTableOk Cfg.ref := lapTableOk_of rfl (by decide) (by decide) (by decide)
theorem zero_table : zero.LapTableOk Cfg.ref := lapTableOk_of rfl (by decide) (by decide) (by decide)

theorem twoLaps_tile : twoLaps.LapsTile := by
  intro _
  decide

theorem blinking_consistent : blinking.Consistent Cfg.ref := ⟨1650, by decide⟩

theorem witness_EncodedInstructionsDecode : (Instr.rd 9#8).wellFormed = true := by decide
theorem witness_DecodedCommandsReencode : decodeCommand 0x22FFFFFFFF#40 = .ok (.cfgDim 0xFFFFFFFF#32) := by decide
theorem witness_ReservedWordsAnsweredIllegal :
    (State.reset.blk.fault = false ∧ decodeCommand 0x2300000000#40 = .error (.unassignedOpcode 0x23#8)) ∧
    decodeCommand 0x2000000001#40 = .error (.argumentNotZero 0x20#8) ∧
    decodeCommand 0x1200000100#40 = .error (.argumentHighBitsNotZero 0x12#8) ∧
    decodeCommand 0x010000000A#40 = .error (.reservedSelector 10#8) := by decide
theorem witness_EventVectorsAndTheirPins : exec EventPin.rst.instr (withBlock halted) = .next State.reset := by rfl
theorem witness_CommandDecodeOrder :
    (withBlock halted).blk.fault = true ∧
    (State.reset.blk.fault = false ∧ decodeCommand 0x9900000000#40 = .error (.unassignedOpcode 0x99#8)) ∧
    (State.reset.blk.fault = false ∧ decodeCommand 0x1000000000#40 = .ok .swPress) := by decide

/-- Ports with one command word waiting. -/
def oneWord (w : CmdWord) : Io := { Io.quiet with cmd := some w }

theorem witness_StepRunsTheDecodedInstruction_command :
    (withBlock zero).io.hold (encode .swPress) = oneWord 0x1000000000#40 ∧
    (oneWord 0x1000000000#40).fetch = (some (.command 0x1000000000#40), Io.quiet) ∧
    decode (.command 0x1000000000#40) = .ok .swPress := by decide
theorem witness_StepRunsTheDecodedInstruction_reserved :
    (oneWord 0x0300000000#40).fetch = (some (.command 0x0300000000#40), Io.quiet) ∧
    decode (.command 0x0300000000#40) = .error (.unassignedOpcode 3#8) := by decide
theorem witness_StepRunsTheDecodedInstruction_waits :
    { Io.quiet with coming := [⟨none, true, false, false, false⟩] }.fetch = (none, Io.quiet) := by decide
theorem witness_PresentedInstructionRunsNext : (Instr.cfgDim 0xFFFFFFFF#32).wellFormed = true := by decide
theorem witness_OneArrivalServedResetLast_several :
    { oneWord 0x1000000000#40 with evt := 7#3 }.idle = false ∧ { oneWord 0x1000000000#40 with evt := 7#3 }.cmd ≠ none ∧
    { oneWord 0x1000000000#40 with evt := 7#3 }.evt ≠ 0#3 := by decide
theorem witness_OneArrivalServedResetLast_command :
    (oneWord 0x1000000000#40).fetch = (some (.command 0x1000000000#40), Io.quiet) ∧
    (oneWord 0x1000000000#40).idle = false := by decide
theorem witness_OneArrivalServedResetLast_event :
    { Io.quiet with coming := [⟨none, true, false, true, false⟩] }.fetch =
      (some (.event .edge), { Io.quiet with btn := true }) ∧
    { Io.quiet with coming := [⟨none, true, false, true, false⟩] }.idle = true := by decide
theorem witness_OneArrivalServedResetLast_reset :
    { Io.quiet with evt := 4#3 }.fetch = (some (.event .rst), Io.quiet) := by decide
/-- After the instants listed the free arrivals go on. -/
theorem witness_OneArrivalServedResetLast_free :
    State.reset.io.idle = true ∧ State.reset.io.coming = [] ∧
    State.reset.io.fetch = ({ Io.quiet.show (Config.arrivals 0) with later := 1 } : Io).serve := ⟨rfl, rfl, rfl⟩
theorem witness_OnlyHighReadingsAreRefused :
    (State.reset.cfg.vrefMv < (3301#32).toNat ∧ State.reset.blk.fault = false) ∧
    (3300#32).toNat ≤ State.reset.cfg.vrefMv ∧ (withBlock halted).blk.fault = true := by decide
theorem witness_ConfigurationNeverChanges :
    step { withBlock halted with io := { Io.quiet with evt := 4#3 } } = .next State.reset := by rfl
theorem witness_TickAddsOneModulo :
    exec .tick (withBlock { zero with ticks := 0xFFFFFFFF#32 }) = .next (withBlock zero) := by rfl
theorem witness_EdgeSetsPress :
    (withBlock beforeFault).blk.press = true ∧ exec .edge (withBlock beforeFault) = .next (withBlock beforeFault) :=
  ⟨rfl, rfl⟩
theorem witness_EdgeSetsPress_taken : State.reset.blk.fault = false := by decide
theorem witness_ResetClearsAndOnlyResetDoes :
    Instr.tick ≠ .reset ∧ (withBlock halted).blk.fault = true ∧ (withBlock halted).blk.running = true ∧
    (withBlock halted).blk.tmr.mode = .idle ∧ after .tick (withBlock halted) = some { halted with ticks := 11 } := by
  decide
theorem witness_ResetClearsAndOnlyResetDoes_fails :
    Instr.cfgTick ≠ .reset ∧ (failing beforeFault).blk.tmr.mode = .blink ∧
    after .cfgTick (failing beforeFault) = some halted := by decide
theorem witness_SimultaneousEventOrders : State.reset.blk.fault = false ∧ State.reset.blk.press = false := by decide
theorem witness_NopOnlyAnswers : (withBlock beforeFault).blk.fault = false := by decide
theorem witness_RdAnswersStatusRegister : (withBlock twoLaps).blk.fault = false := by decide
theorem witness_TmrModeLayout :
    exec (.rd 0x04#8) (withBlock beforeFault) = .next { withBlock beforeFault with rsp := some ⟨.ok, 0x12, 0⟩ } := by
  rfl
theorem witness_TakePressReadsAndClears : (withBlock beforeFault).blk.fault = false := by decide
theorem witness_PressesReturnedAtMostEdges :
    runTrace (accepted [.edge, .edge, .takePress, .takePress]) State.reset =
      .next { State.reset with rsp := some ⟨.ok, 0, 0⟩ } := by rfl
/-- An execution in which the draw changes between two configurations. -/
theorem witness_changingDraws :
    runTrace acceptThenReject (withBlock twoLaps) =
      .next { failing { twoLaps with fault := true } with rsp := some ⟨.cfgFail, 0, 0⟩ } := by rfl
theorem witness_SwPressTransitions :
    (State.reset.blk.fault = false ∧ State.reset.blk.press = false) ∧
    (({ zero with press := true } : Block).press = true ∧ zero.running = false) ∧
    (twoLaps.fault = false ∧ twoLaps.running = true ∧ twoLaps.lapCount.toNat < Cfg.ref.lapN) ∧
    (fullLaps.fault = false ∧ fullLaps.running = true ∧ fullLaps.lapCount.toNat = Cfg.ref.lapN) := by decide

/-- The third lap just began. -/
def lapBegun : Block := { twoLaps with ticks := 1200 }

theorem witness_LapDurationIsModularDifference :
    lapBegun.fault = false ∧ lapBegun.running = true ∧ lapBegun.lapCount.toNat < Cfg.ref.lapN ∧
    lapBegun.lapStart = lapBegun.ticks := by decide
theorem witness_PressAtFullCapacityConsumed :
    ({ fullLaps with press := true } : Block).fault = false ∧ ({ fullLaps with press := true } : Block).press = true ∧
    ({ fullLaps with press := true } : Block).running = true ∧ fullLaps.lapCount.toNat = Cfg.ref.lapN := by decide
theorem witness_SwUpdateAnswers :
    (zero.fault = false ∧ zero.running = false) ∧
    (twoLaps.fault = false ∧ twoLaps.running = true ∧ twoLaps.lapCount.toNat < Cfg.ref.lapN) ∧
    (fullLaps.fault = false ∧ fullLaps.running = true ∧ ¬ fullLaps.lapCount.toNat < Cfg.ref.lapN) := by decide
theorem witness_SwUpdateIsIdempotent :
    ({ instr := .swUpdate } : TraceStep).instr = .swUpdate ∧
    (∀ i ∈ instrsOf (accepted [.edge, .fmt 1200#32, .cfgTick]), i ≠ .tick ∧ i ≠ .swPress ∧ i ≠ .reset) ∧
    ((nextOf (runTrace ({ instr := .swUpdate } :: accepted [.edge, .fmt 1200#32, .cfgTick]) (withBlock twoLaps))).map (fun t => t.blk.fault)) =
      some false := by decide
theorem witness_LapRdAnswers :
    twoLaps.fault = false ∧ (1#8).toNat < twoLaps.lapCount.toNat ∧ ¬ (2#8).toNat < twoLaps.lapCount.toNat := by decide
theorem witness_LapRdAnswers_outside : fullLaps.LapTableOk Cfg.ref ∧ Cfg.ref.lapN ≤ (4#8).toNat :=
  ⟨fullLaps_table, by decide⟩
theorem witness_LapRdAnswers_stopped : zero.LapTableOk Cfg.ref ∧ zero.running = false := ⟨zero_table, rfl⟩
theorem witness_FmtSplitsCentiseconds : State.reset.blk.fault = false := by decide
theorem witness_TextFormBelowHundredMinutes :
    599999 < 600000 ∧ timeText 599999 = some ['9', '9', ':', '5', '9', '.', '9', '9'] ∧ timeText 600000 = none := by
  decide
theorem witness_LapsAreGapsBetweenPresses : State.reset.blk.fault = false ∧ State.reset.blk.running = false := by decide
theorem witness_StepKeepsLapTable :
    twoLaps.LapTableOk Cfg.ref ∧ step { withBlock twoLaps with io := oneWord 0x1000000000#40 } =
      .next { withBlock twoLaps with rsp := some ⟨.empty, 0, 0⟩ } := ⟨twoLaps_table, rfl⟩
theorem witness_StepKeepsLapTable_lap :
    ({ twoLaps with press := true } : Block).LapTableOk Cfg.ref ∧
    step { withBlock { twoLaps with press := true } with io := oneWord 0x1000000000#40 } =
      .next { withBlock { twoLaps with lapStart := 1500, laps := [500, 700, 300, 0], lapCount := 3 } with
        rsp := some ⟨.ok, 2, 300⟩ } :=
  ⟨lapTableOk_of rfl (by decide) (by decide) (by decide), rfl⟩
theorem witness_StepKeepsLapsTiling :
    twoLaps.LapTableOk Cfg.ref ∧ twoLaps.LapsTile ∧ twoLaps.running = true ∧
    step { withBlock twoLaps with io := oneWord 0x1000000000#40 } =
      .next { withBlock twoLaps with rsp := some ⟨.empty, 0, 0⟩ } := ⟨twoLaps_table, twoLaps_tile, rfl, rfl⟩
theorem witness_LapsAndRunningLapMakeTotal :
    twoLaps.LapsTile ∧ twoLaps.fault = false ∧ twoLaps.running = true ∧ twoLaps.lapCount.toNat < Cfg.ref.lapN :=
  ⟨twoLaps_tile, by decide⟩
theorem witness_ElapsedTimesCountTicks :
    exec .tick (withBlock lapBegun) = .next (withBlock { lapBegun with ticks := 1201 }) ∧
    lapBegun.running = true ∧ lapBegun.ticks - lapBegun.lapStart = BitVec.ofNat 32 0 ∧
    lapBegun.ticks - lapBegun.startTick = BitVec.ofNat 32 1200 := ⟨rfl, by decide⟩
theorem witness_ElapsedTimesCountTicks_starts :
    exec .swPress (withBlock { zero with press := true }) =
      .next { withBlock { zero with running := true } with rsp := some ⟨.ok, 1, 0⟩ } ∧ zero.running = false := ⟨rfl, rfl⟩
theorem witness_RecordedLapsNeverChange :
    twoLaps.LapTableOk Cfg.ref ∧ (∀ i ∈ instrsOf acceptThenReject, i ≠ .reset) ∧
    runTrace acceptThenReject (withBlock twoLaps) =
      .next { failing { twoLaps with fault := true } with rsp := some ⟨.cfgFail, 0, 0⟩ } ∧ 1 < twoLaps.lapCount.toNat :=
  ⟨twoLaps_table, by decide, rfl, by decide⟩
theorem witness_NoWayBackToStopped :
    twoLaps.LapTableOk Cfg.ref ∧ twoLaps.running = true ∧ Instr.edge ≠ .reset ∧
    exec .edge (withBlock twoLaps) = .next (withBlock { twoLaps with press := true }) :=
  ⟨twoLaps_table, rfl, by decide, rfl⟩
theorem witness_NoWayBackToStopped_reset : exec .reset (withBlock twoLaps) = .next (withBlock zero) := by rfl
theorem witness_CfgTickConfigures : (withBlock beforeFault).blk.fault = false ∧ (withBlock beforeFault).io.cfgOk = true := by
  decide
theorem witness_CfgTickConfigures_fails :
    (failing beforeFault).blk.fault = false ∧ (failing beforeFault).io.cfgOk = false := by decide
theorem witness_CfgBlinkConfigures :
    State.reset.blk.fault = false ∧ State.reset.io.cfgOk = true ∧ (3300#32).toNat ≤ State.reset.cfg.vrefMv ∧
    10000 = 1000 + (3300#32).toNat * 9000 / State.reset.cfg.vrefMv := by decide
theorem witness_CfgBlinkConfigures_zero :
    (0#32).toNat ≤ State.reset.cfg.vrefMv ∧ 1000 = 1000 + (0#32).toNat * 9000 / State.reset.cfg.vrefMv := by decide
theorem witness_CfgBlinkConfigures_refused :
    State.reset.blk.fault = false ∧ State.reset.cfg.vrefMv < (3301#32).toNat := by decide
theorem witness_CfgBlinkConfigures_fails :
    (failing beforeFault).blk.fault = false ∧ (failing beforeFault).io.cfgOk = false ∧
    (3300#32).toNat ≤ (failing beforeFault).cfg.vrefMv := by decide
theorem witness_CfgDimConfigures_refused :
    State.reset.blk.fault = false ∧ State.reset.cfg.vrefMv < (3301#32).toNat := by decide
theorem witness_CfgDimConfigures_fails :
    (failing beforeFault).blk.fault = false ∧ (failing beforeFault).io.cfgOk = false ∧
    (3300#32).toNat ≤ (failing beforeFault).cfg.vrefMv := by decide
theorem witness_CfgDimConfigures :
    State.reset.blk.fault = false ∧ State.reset.io.cfgOk = true ∧ (3300#32).toNat ≤ State.reset.cfg.vrefMv ∧
    100 = (3300#32).toNat * 100 / State.reset.cfg.vrefMv ∧ 1000 = State.reset.cfg.cntHz / 1000 := by decide
theorem witness_FailedConfigurationLatchesFault :
    configures Cfg.ref (.cfgDim 3300#32) = true ∧ (failing beforeFault).blk.fault = false ∧
    (failing beforeFault).io.cfgOk = false := by decide
theorem witness_FailedConfigurationLatchesFault_fatal :
    (withBlock halted).blk.fault = true ∧ Instr.cfgTick ≠ .reset ∧
    exec .cfgTick (withBlock halted) = .next { withBlock halted with rsp := some ⟨.halted, 0, 0⟩ } :=
  ⟨rfl, by decide, rfl⟩
theorem witness_ReadingAboveVrefRefused :
    State.reset.cfg.vrefMv < (3301#32).toNat ∧ State.reset.blk.fault = false ∧ (withBlock halted).blk.fault = true := by
  decide
theorem witness_HaltedBlock : (withBlock halted).blk.fault = true ∧
    ∀ u ∈ [({ instr := .tick } : TraceStep), { instr := .nop }], u.instr ≠ .reset := by decide
theorem witness_HaltedUntilReset :
    (withBlock halted).blk.fault = true ∧ ∀ i ∈ instrsOf acceptThenReject, i ≠ .reset := by decide
theorem witness_BlinkFrequencyMap : 3299 ≤ Cfg.ref.vrefMv ∧ 3299 ≤ 3300 ∧ blinkMhz Cfg.ref 3299 = 9997 := by decide
theorem witness_DutyMap : 3299 ≤ Cfg.ref.vrefMv ∧ 3299 ≤ 3300 ∧ dutyPct Cfg.ref 3299 = 99 := by decide
theorem witness_BoundaryReadings : State.reset.blk.fault = false ∧ State.reset.io.cfgOk = true := by decide
theorem witness_TimerValuesFitTheirRegisters : 3300 ≤ Cfg.ref.vrefMv ∧ 3000 ≤ alt.vrefMv := by decide
theorem witness_StepKeepsTimerTable :
    blinking.Consistent Cfg.ref ∧
    step { withBlock beforeFault with io := oneWord 0x0000000000#40 } =
      .next { withBlock beforeFault with rsp := some ⟨.ok, 0, 0⟩ } := ⟨blinking_consistent, rfl⟩
theorem witness_ModeSwitchesLeaveNoResidue :
    State.reset.blk.fault = false ∧ State.reset.io.cfgOk = true ∧
    (∀ j ∈ [Instr.cfgDim 3300#32, .cfgTick], configures State.reset.cfg j = true) ∧
    configures State.reset.cfg (.cfgBlink 3300#32) = true := by decide
theorem witness_IdleOnlyByResetOrFailure :
    after .cfgTick (failing beforeFault) = some halted ∧ halted.tmr.mode = .idle ∧ beforeFault.tmr.mode = .blink ∧
    (withBlock beforeFault).blk.fault = false ∧ (withBlock beforeFault).io.cfgOk = true := by decide
theorem witness_ArbiterAndStopwatchIndependent :
    twoLaps.tmr = State.reset.blk.tmr ∧ twoLaps.fault = State.reset.blk.fault ∧
    after .cfgTick State.reset ≠ none := by decide
theorem witness_WriteRightsByAgent :
    exec .edge (withBlock zero) = .next (withBlock { zero with press := true }) ∧
    exec .tick (withBlock zero) = .next (withBlock { zero with ticks := 1 }) ∧
    exec .reset (withBlock twoLaps) = .next (withBlock zero) := ⟨rfl, rfl, rfl⟩
theorem witness_ReadingCommandsChangeNothing :
    (Instr.rd 10#8 = .nop ∨ (∃ sel, Instr.rd 10#8 = .rd sel) ∨ Instr.rd 10#8 = .swUpdate ∨
      (∃ k, Instr.rd 10#8 = .lapRd k) ∨ ∃ v, Instr.rd 10#8 = .fmt v) := .inr (.inl ⟨10#8, rfl⟩)
theorem witness_OutputsShowTheSettings :
    beforeFault.tmr.mode = .blink ∧ (withBlock beforeFault).outputs.rspValid = false ∧
    ({ withBlock beforeFault with rsp := some ⟨.full, 5, 0⟩ } : State).outputs.rspSt = 2#4 := by decide

/-- An edge, a tick and a press command, then two configurations of which the second is rejected. -/
def mixed : List TraceStep := accepted [.edge, .tick, .swPress] ++ acceptThenReject

/-- A state at whose ports these steps are presented. -/
def presented : State := { State.reset with io := { Io.quiet with coming := mixed.flatMap TraceStep.instants } }

theorem witness_PortsRunThePresentedSequence :
    (∀ u ∈ mixed, u.instr.wellFormed = true) ∧ presented.io.cmd = none ∧ presented.io.evt = 0 ∧
    presented.io.coming = mixed.flatMap TraceStep.instants ∧
    runTrace mixed presented = .next { presented.setCfgOk false with
      blk := { zero with ticks := 1, running := true, startTick := 1, lapStart := 1, fault := true },
      rsp := some ⟨.cfgFail, 0, 0⟩ } := ⟨by decide, rfl, rfl, rfl, rfl⟩

/-- Ticks for ever, the draw changing at every step. -/
def ticksForEver (n : Nat) : TraceStep := { instr := .tick, cfgOk := n % 2 == 0 }

/-- The states of a block that ticks for ever. -/
def ticking (n : Nat) : State := (withBlock { zero with ticks := BitVec.ofNat 32 n }).setCfgOk (n % 2 == 1)

theorem witness_PortsRunThePresentedSequence_infinite :
    Executes ticksForEver ticking ∧ (∀ n, (ticksForEver n).instr.wellFormed = true) ∧ (ticking 0).io.cmd = none ∧
    (ticking 0).io.evt = 0 ∧ (ticking 0).io.coming = [] := by
  refine ⟨fun n => ?_, fun _ => rfl, rfl, rfl, rfl⟩
  have h : ((n + 1) % 2 == 1) = (n % 2 == 0) := by rw [Bool.eq_iff_iff]; simp; omega
  simp [TraceStep.run, ticksForEver, exec, execTick, ticking, withBlock, State.setBlk, State.silent, State.setCfgOk,
    Block.countTick, State.resetIn, BitVec.ofNat_add, h]
theorem witness_PortsRunThePresentedSequence_inRange :
    ∀ n mv, (ticksForEver n).instr = .cfgBlink mv ∨ (ticksForEver n).instr = .cfgDim mv →
      mv.toNat ≤ State.reset.cfg.vrefMv := by
  rintro n mv (h | h) <;> cases h

end Sys2Proof.Tests
end

section
/-! The state of the block (10_state.md): the reset state (R36) and the layouts of the packed status registers (R31, R32). -/

namespace Sys2Proof.Proofs.StateLayout

open Sys2Proof Sys2Proof.Machine

/-- After reset every lap register is 0, and so is a read outside the table (R36, log entry 9). -/
@[simp] theorem lap_reset (c : Cfg) (i : Nat) : (Block.reset c).lap i = 0 := by
  simp [Block.lap, Block.reset]

/-- Settles O17: `Block.reset` writes every element, and the lap table holds `LAP_N` zeros. -/
theorem everyElementIsZeroAfterReset : Obligations.EveryElementIsZeroAfterReset := by
  intro c
  exact ⟨rfl, rfl, rfl, rfl, rfl, List.length_replicate, lap_reset c, rfl, rfl, rfl, rfl, rfl, rfl, rfl, rfl, rfl⟩

/-- Packing words side by side is positional addition: the left one counts above the right one's width. -/
theorem toNat_append_eq_add {v w : Nat} (x : BitVec v) (y : BitVec w) :
    (x ++ y).toNat = x.toNat * 2 ^ w + y.toNat := by
  rw [BitVec.toNat_append, ← Nat.shiftLeft_add_eq_or_of_lt y.isLt, Nat.shiftLeft_eq]

@[simp] theorem toNat_bit (b : Bool) : (bit b).toNat = b.toNat := BitVec.toNat_ofBool b

/-- `SW_STATUS` as a sum of its fields (R31). -/
theorem swStatus_toNat (s : State) :
    s.swStatus.toNat = s.blk.running.toNat + 2 * s.lapFull.toNat + 256 * s.blk.lapCount.toNat := by
  simp only [State.swStatus, toNat_append_eq_add, toNat_bit, BitVec.toNat_ofNat]
  omega

/-- `TMR_MODE` as a sum of its fields (R32). -/
theorem tmrMode_toNat (s : State) :
    s.tmrMode.toNat = s.blk.tmr.mode.code.toNat + 16 * s.blk.tmr.chEn.toNat + 2 ^ 31 * s.blk.fault.toNat := by
  simp only [State.tmrMode, toNat_append_eq_add, toNat_bit, BitVec.toNat_ofNat]
  omega

/-- Bit 31 of `TMR_MODE` is `FAULT` (R32). -/
theorem tmrMode_bit31 (s : State) : s.tmrMode.getLsbD 31 = s.blk.fault := by
  simp only [State.tmrMode, BitVec.getLsbD_append]
  simp [bit]

/-- `LAP_FULL` as a number (R31). -/
theorem lapFull_toNat (s : State) : s.lapFull.toNat = if s.blk.lapCount.toNat = s.cfg.lapN then 1 else 0 := by
  simp only [State.lapFull, Bool.toNat, Bool.cond_decide]

/-- No status register shows `PRESS` (R30, R31). -/
theorem readStatus_setPress (s : State) (p : Bool) (r : StatusReg) :
    (s.setBlk (s.blk.setPress p)).readStatus r = s.readStatus r := by
  cases r <;> rfl

/-- Settles O22: from the sum of the fields, and from no status register reading `PRESS`. -/
theorem swStatusLayout : Obligations.SwStatusLayout :=
  ⟨fun s => by rw [swStatus_toNat, lapFull_toNat], readStatus_setPress⟩

/-- `RD` of an assigned selector answers the status register it names (R83), under the halted check of R69. -/
theorem exec_rd_assigned {sel : BitVec 8} {r : StatusReg} (h : statusRegOf sel = some r) (s : State) :
    exec (.rd sel) s = s.command (.next (s.respond .ok (s.readStatus r) 0)) := by
  simp only [exec, execRd, h]

/-- An `RD` of an assigned selector that is answered `OK` read the named register of a block without a fault: a halted block
answers `HALTED` (R69, R163). -/
theorem fault_eq_false_and_eq_readStatus_of_rd_ok {sel : BitVec 8} {r : StatusReg} {s t : State} {d0 d1 : Data}
    (hr : statusRegOf sel = some r) (h : exec (.rd sel) s = .next t) (ok : t.rsp = some ⟨.ok, d0, d1⟩) :
    s.blk.fault = false ∧ d0 = s.readStatus r := by
  rw [exec_rd_assigned hr] at h
  obtain ⟨-, halted⟩ | ⟨hf, answered⟩ := s.command_cases (.next (s.respond .ok (s.readStatus r) 0))
  · rw [halted] at h
    cases h
    cases ok
  · rw [answered] at h
    cases h
    cases ok
    exact ⟨hf, rfl⟩

/-- Settles O23: bit 31 of `TMR_MODE` is `FAULT`, and only a block without a fault answers `OK`. -/
theorem tmrModeLayout : Obligations.TmrModeLayout := by
  refine ⟨⟨rfl, rfl, rfl, rfl⟩, tmrMode_toNat, ?_⟩
  intro s t d0 d1 h ok
  obtain ⟨hf, rfl⟩ := fault_eq_false_and_eq_readStatus_of_rd_ok (r := .tmrMode) rfl h ok
  exact (tmrMode_bit31 s).trans hf

end Sys2Proof.Proofs.StateLayout
end

section
/-! Command words (30_encoding.md): fields and masks (R60 to R65), reserved words (R70), the order of decoding (R69). -/

namespace Sys2Proof.Proofs.CommandWords

open Sys2Proof Sys2Proof.Machine Sys2Proof.Laws Sys2Proof.Proofs.StateLayout

/-! The fields of a command word, as numbers and under a mask (R60, R62). -/

theorem opOf_toNat (w : CmdWord) : (opOf w).toNat = w.toNat / 2 ^ 32 := by
  have := w.isLt
  rw [opOf, BitVec.extractLsb'_toNat, Nat.shiftRight_eq_div_pow]
  omega

theorem argOf_toNat (w : CmdWord) : (argOf w).toNat = w.toNat % 2 ^ 32 := by
  rw [argOf, BitVec.extractLsb'_toNat, Nat.shiftRight_zero]

theorem highOf_toNat (arg : Data) : (highOf arg).toNat = arg.toNat / 256 := by
  have := arg.isLt
  rw [highOf, BitVec.extractLsb'_toNat, Nat.shiftRight_eq_div_pow]
  omega

theorem lowOf_toNat (arg : Data) : (lowOf arg).toNat = arg.toNat % 256 := by
  rw [lowOf, BitVec.extractLsb'_toNat, Nat.shiftRight_zero]

theorem argOf_eq_setWidth (w : CmdWord) : argOf w = w.setWidth 32 :=
  (BitVec.setWidth_eq_extractLsb' (by decide)).symm

theorem lowOf_argOf_eq_setWidth (w : CmdWord) : lowOf (argOf w) = w.setWidth 8 := by
  apply BitVec.eq_of_toNat_eq
  rw [lowOf_toNat, argOf_toNat, BitVec.toNat_setWidth]
  omega

/-- A command word is determined by its two fields. -/
theorem eq_commandWord_iff {w : CmdWord} {op : BitVec 8} {arg : Data} :
    w = commandWord op arg ↔ opOf w = op ∧ argOf w = arg := by
  constructor
  · rintro rfl
    exact ⟨opOf_commandWord op arg, argOf_commandWord op arg⟩
  · rintro ⟨rfl, rfl⟩
    apply BitVec.eq_of_toNat_eq
    rw [commandWord_toNat, opOf_toNat, argOf_toNat]
    omega

/-- An argument is zero when both parts format S sees in it are. -/
theorem eq_zero_iff_highOf_lowOf {arg : Data} : arg = 0#32 ↔ highOf arg = 0#24 ∧ lowOf arg = 0#8 := by
  rw [← BitVec.toNat_inj, ← BitVec.toNat_inj, ← BitVec.toNat_inj, highOf_toNat, lowOf_toNat]
  simp only [BitVec.toNat_ofNat]
  omega

/-- Masking a word is masking its fields. -/
theorem and_eq_commandWord_iff {w : CmdWord} {mop op : BitVec 8} {marg arg : Data} :
    w &&& commandWord mop marg = commandWord op arg ↔ opOf w &&& mop = op ∧ argOf w &&& marg = arg := by
  have hop : opOf (w &&& commandWord mop marg) = opOf w &&& mop := by
    rw [opOf, BitVec.extractLsb'_and, ← opOf, ← opOf, opOf_commandWord]
  have harg : argOf (w &&& commandWord mop marg) = argOf w &&& marg := by
    rw [argOf, BitVec.extractLsb'_and, ← argOf, ← argOf, argOf_commandWord]
  rw [eq_commandWord_iff, hop, harg]

/-- The mask of format Z keeps the whole word. -/
theorem and_maskZ_eq_iff (w : CmdWord) (op : BitVec 8) :
    w &&& 0xFF_FFFFFFFF#40 = commandWord op 0#32 ↔ opOf w = op ∧ argOf w = 0#32 := by
  have mask : 0xFF_FFFFFFFF#40 = commandWord (BitVec.allOnes 8) (BitVec.allOnes 32) := rfl
  rw [mask, and_eq_commandWord_iff, BitVec.and_allOnes, BitVec.and_allOnes]

/-- The mask of format S drops the operand byte. -/
theorem and_maskS_eq_iff (w : CmdWord) (op : BitVec 8) :
    w &&& 0xFF_FFFFFF00#40 = commandWord op 0#32 ↔ opOf w = op ∧ highOf (argOf w) = 0#24 := by
  have mask : 0xFF_FFFFFF00#40 = commandWord (BitVec.allOnes 8) 0xFFFFFF00#32 := rfl
  have high (arg : Data) : highOf (arg &&& 0xFFFFFF00#32) = highOf arg :=
    BitVec.extractLsb'_and.trans BitVec.and_allOnes
  have low (arg : Data) : lowOf (arg &&& 0xFFFFFF00#32) = 0#8 :=
    BitVec.extractLsb'_and.trans BitVec.and_zero
  rw [mask, and_eq_commandWord_iff, BitVec.and_allOnes, eq_zero_iff_highOf_lowOf, high, low]
  simp

/-- The mask of format V drops the whole argument. -/
theorem and_maskV_eq_iff (w : CmdWord) (op : BitVec 8) :
    w &&& 0xFF_00000000#40 = commandWord op 0#32 ↔ opOf w = op := by
  have mask : 0xFF_00000000#40 = commandWord (BitVec.allOnes 8) 0#32 := rfl
  rw [mask, and_eq_commandWord_iff, BitVec.and_allOnes, BitVec.and_zero]
  simp

/-! What each format accepts and rejects (R61, R62, R70). -/

theorem formatZ_eq_ok_iff {op : BitVec 8} {arg : Data} {i j : Instr} :
    formatZ op arg i = .ok j ↔ arg = 0#32 ∧ i = j := by
  unfold formatZ
  split <;> simp [*]

theorem formatZ_rejects_iff {op : BitVec 8} {arg : Data} {i : Instr} :
    (∃ e, formatZ op arg i = .error e) ↔ arg ≠ 0#32 := by
  unfold formatZ
  split <;> simp [*]

theorem formatS_eq_ok_iff {op : BitVec 8} {arg : Data} {k : BitVec 8 → Except DecodeError Instr} {i : Instr} :
    formatS op arg k = .ok i ↔ highOf arg = 0#24 ∧ k (lowOf arg) = .ok i := by
  unfold formatS
  split <;> simp [*]

theorem formatS_rejects_iff {op : BitVec 8} {arg : Data} {k : BitVec 8 → Except DecodeError Instr} :
    (∃ e, formatS op arg k = .error e) ↔ highOf arg ≠ 0#24 ∨ ∃ e, k (lowOf arg) = .error e := by
  unfold formatS
  split <;> simp [*]

theorem decodeSelector_eq_ok_iff {s : BitVec 8} {i : Instr} :
    decodeSelector s = .ok i ↔ s.toNat ≤ 9 ∧ .rd s = i := by
  unfold decodeSelector selectorAssigned
  split <;> simp_all

theorem decodeSelector_rejects_iff {s : BitVec 8} :
    (∃ e, decodeSelector s = .error e) ↔ 9 < s.toNat := by
  unfold decodeSelector selectorAssigned
  split <;> simp_all

/-! The row of the opcode map an opcode selects (R65). -/

/-- The opcodes of R65. -/
def opcodes : List (BitVec 8) :=
  [0x00#8, 0x01#8, 0x02#8, 0x10#8, 0x11#8, 0x12#8, 0x13#8, 0x20#8, 0x21#8, 0x22#8]

/-- The opcodes of format Z. -/
def opcodesZ : List (BitVec 8) := [0x00#8, 0x02#8, 0x10#8, 0x11#8, 0x20#8]

/-- The opcodes of format S. -/
def opcodesS : List (BitVec 8) := [0x01#8, 0x12#8]

/-- The opcodes of format V. -/
def opcodesV : List (BitVec 8) := [0x13#8, 0x21#8, 0x22#8]

/-- How R65 reads the argument under an opcode. -/
inductive OpcodeRow : BitVec 8 → (Data → Except DecodeError Instr) → Prop
  | formatZ {op : BitVec 8} (i : Instr) : op ∈ opcodesZ → opcodeOf i = some op →
      OpcodeRow op (fun arg => formatZ op arg i)
  | rd : OpcodeRow 0x01#8 (fun arg => formatS 0x01#8 arg decodeSelector)
  | lapRd : OpcodeRow 0x12#8 (fun arg => formatS 0x12#8 arg (fun i => .ok (.lapRd i)))
  | formatV {op : BitVec 8} (k : Data → Instr) : op ∈ opcodesV → (∀ v, opcodeOf (k v) = some op) →
      OpcodeRow op (fun arg => .ok (k arg))
  | unassigned {op : BitVec 8} : op ∉ opcodes → OpcodeRow op (fun _ => .error (.unassignedOpcode op))

/-- The decoder reads the argument as the opcode's row says. -/
theorem decodeFields_row (op : BitVec 8) : OpcodeRow op (decodeFields op) := by
  by_cases h : op ∈ opcodes
  · simp only [opcodes, List.mem_cons, List.not_mem_nil, or_false] at h
    rcases h with rfl | rfl | rfl | rfl | rfl | rfl | rfl | rfl | rfl | rfl
    · exact .formatZ .nop (by decide) rfl
    · exact .rd
    · exact .formatZ .takePress (by decide) rfl
    · exact .formatZ .swPress (by decide) rfl
    · exact .formatZ .swUpdate (by decide) rfl
    · exact .lapRd
    · exact .formatV .fmt (by decide) fun _ => rfl
    · exact .formatZ .cfgTick (by decide) rfl
    · exact .formatV .cfgBlink (by decide) fun _ => rfl
    · exact .formatV .cfgDim (by decide) fun _ => rfl
  · have error : decodeFields op = fun _ => .error (.unassignedOpcode op) := by
      simp only [opcodes, List.mem_cons, List.not_mem_nil, or_false, not_or] at h
      funext arg
      simp [decodeFields, h]
    exact error ▸ .unassigned h

/-- An opcode's row yields no instruction of another row. -/
theorem OpcodeRow.opcodeOf_eq {op : BitVec 8} {f : Data → Except DecodeError Instr} (row : OpcodeRow op f)
    {arg : Data} {i : Instr} (h : f arg = .ok i) : opcodeOf i = some op := by
  cases row with
  | formatZ j _ hj =>
    obtain ⟨-, rfl⟩ := formatZ_eq_ok_iff.mp h
    exact hj
  | rd =>
    obtain ⟨-, hs⟩ := formatS_eq_ok_iff.mp h
    obtain ⟨-, rfl⟩ := decodeSelector_eq_ok_iff.mp hs
    rfl
  | lapRd =>
    obtain ⟨-, ⟨⟩⟩ := formatS_eq_ok_iff.mp h
    rfl
  | formatV k _ hk =>
    cases h
    exact hk arg
  | unassigned _ => cases h

/-- The rejections of R70 (a) to (d), by opcode and argument. -/
theorem OpcodeRow.rejects_iff {op : BitVec 8} {f : Data → Except DecodeError Instr} (row : OpcodeRow op f)
    (arg : Data) :
    (∃ e, f arg = .error e) ↔
      op ∉ opcodes ∨ (op ∈ opcodesZ ∧ arg ≠ 0#32) ∨ (op ∈ opcodesS ∧ highOf arg ≠ 0#24) ∨
        (op = 0x01#8 ∧ 9 < (lowOf arg).toNat) := by
  cases row with
  | formatZ i hz _ =>
    have others : ∀ op ∈ opcodesZ, op ∈ opcodes ∧ op ∉ opcodesS ∧ op ≠ 0x01#8 := by decide
    rw [formatZ_rejects_iff]
    simp [hz, others op hz]
  | rd =>
    rw [formatS_rejects_iff, decodeSelector_rejects_iff]
    simp [opcodes, opcodesZ, opcodesS]
  | lapRd =>
    rw [formatS_rejects_iff]
    simp [opcodes, opcodesZ, opcodesS]
  | formatV k hv _ =>
    have others : ∀ op ∈ opcodesV, op ∈ opcodes ∧ op ∉ opcodesZ ∧ op ∉ opcodesS ∧ op ≠ 0x01#8 := by decide
    simp [others op hv]
  | unassigned h => simp [h]

/-! Which words are the command of a row (R65). -/

theorem opcodeOf_of_decodeCommand {w : CmdWord} {i : Instr} (h : decodeCommand w = .ok i) :
    opcodeOf i = some (opOf w) :=
  (decodeFields_row (opOf w)).opcodeOf_eq h

theorem decodeCommand_eq_ok_iff {w : CmdWord} {i : Instr} {op : BitVec 8} (hi : opcodeOf i = some op) :
    decodeCommand w = .ok i ↔ opOf w = op ∧ decodeFields op (argOf w) = .ok i := by
  constructor
  · intro h
    obtain rfl : opOf w = op := Option.some.inj ((opcodeOf_of_decodeCommand h).symm.trans hi)
    exact ⟨rfl, h⟩
  · rintro ⟨rfl, h⟩
    exact h

/-- A row of format Z: the whole word is fixed. -/
theorem decodeCommand_formatZ_iff (w : CmdWord) (op : BitVec 8) {i : Instr} (hi : opcodeOf i = some op)
    (row : ∀ arg, decodeFields op arg = formatZ op arg i) :
    decodeCommand w = .ok i ↔ w &&& 0xFF_FFFFFFFF#40 = commandWord op 0#32 := by
  rw [decodeCommand_eq_ok_iff hi, row, formatZ_eq_ok_iff, and_maskZ_eq_iff]
  simp

/-- A row of format S: all but the low byte is fixed, and the row decides on that byte. -/
theorem decodeCommand_formatS_iff (w : CmdWord) (op : BitVec 8) {i : Instr}
    {k : BitVec 8 → Except DecodeError Instr} (hi : opcodeOf i = some op)
    (row : ∀ arg, decodeFields op arg = formatS op arg k) :
    decodeCommand w = .ok i ↔ w &&& 0xFF_FFFFFF00#40 = commandWord op 0#32 ∧ k (w.setWidth 8) = .ok i := by
  rw [decodeCommand_eq_ok_iff hi, row, formatS_eq_ok_iff, and_maskS_eq_iff, lowOf_argOf_eq_setWidth, and_assoc]

/-- A row of format V: the opcode is fixed, and the argument is the operand. -/
theorem decodeCommand_formatV_iff (w : CmdWord) (op : BitVec 8) {k : Data → Instr} {v : Data}
    (hk : opcodeOf (k v) = some op) (inj : Function.Injective k) (row : ∀ arg, decodeFields op arg = .ok (k arg)) :
    decodeCommand w = .ok (k v) ↔ w &&& 0xFF_00000000#40 = commandWord op 0#32 ∧ v = w.setWidth 32 := by
  rw [decodeCommand_eq_ok_iff hk, row, and_maskV_eq_iff, argOf_eq_setWidth, Except.ok.injEq, inj.eq_iff,
    eq_comm (a := v)]

/-- Settles O5: each row by its format; `RD` further asks for an assigned selector. -/
theorem commandsMatchTheirTableRow : Obligations.CommandsMatchTheirTableRow := by
  intro w
  refine ⟨?nop, ?rd, ?takePress, ?swPress, ?swUpdate, ?lapRd, ?fmt, ?cfgTick, ?cfgBlink, ?cfgDim⟩
  case nop => exact decodeCommand_formatZ_iff w 0x00#8 rfl fun _ => rfl
  case rd =>
    intro sel
    refine (decodeCommand_formatS_iff w 0x01#8 (k := decodeSelector) rfl fun _ => rfl).trans (and_congr_right' ?_)
    rw [decodeSelector_eq_ok_iff, Instr.rd.injEq, eq_comm (a := sel), and_comm]
    exact and_congr_right fun hs => by rw [hs]
  case takePress => exact decodeCommand_formatZ_iff w 0x02#8 rfl fun _ => rfl
  case swPress => exact decodeCommand_formatZ_iff w 0x10#8 rfl fun _ => rfl
  case swUpdate => exact decodeCommand_formatZ_iff w 0x11#8 rfl fun _ => rfl
  case lapRd =>
    intro i
    refine (decodeCommand_formatS_iff w 0x12#8 (k := fun i => .ok (.lapRd i)) rfl fun _ => rfl).trans
      (and_congr_right' ?_)
    rw [Except.ok.injEq, Instr.lapRd.injEq, eq_comm]
  case fmt => exact fun _ => decodeCommand_formatV_iff w 0x13#8 rfl (fun _ _ => Instr.fmt.inj) fun _ => rfl
  case cfgTick => exact decodeCommand_formatZ_iff w 0x20#8 rfl fun _ => rfl
  case cfgBlink => exact fun _ => decodeCommand_formatV_iff w 0x21#8 rfl (fun _ _ => Instr.cfgBlink.inj) fun _ => rfl
  case cfgDim => exact fun _ => decodeCommand_formatV_iff w 0x22#8 rfl (fun _ _ => Instr.cfgDim.inj) fun _ => rfl

/-! The words that are no command (R70), and the order of decoding (R69). -/

/-- Membership of an opcode in a list of opcodes, read as numbers. -/
theorem opOf_mem_iff (w : CmdWord) (l : List (BitVec 8)) :
    opOf w ∈ l ↔ w.toNat / 2 ^ 32 ∈ l.map BitVec.toNat := by
  rw [← opOf_toNat, List.mem_map_of_injective BitVec.toNat_injective]

/-- R70 (a) to (d) on the number of the word. -/
theorem decodeCommand_rejects_iff (w : CmdWord) :
    (∃ e, decodeCommand w = .error e) ↔
      w.toNat / 2 ^ 32 ∉ opcodes.map BitVec.toNat ∨
      (w.toNat / 2 ^ 32 ∈ opcodesZ.map BitVec.toNat ∧ w.toNat % 2 ^ 32 ≠ 0) ∨
      (w.toNat / 2 ^ 32 ∈ opcodesS.map BitVec.toNat ∧ w.toNat % 2 ^ 32 / 256 ≠ 0) ∨
      (w.toNat / 2 ^ 32 = 0x01 ∧ 9 < w.toNat % 256) := by
  have arg : argOf w = 0#32 ↔ w.toNat % 2 ^ 32 = 0 := by
    rw [← BitVec.toNat_inj, argOf_toNat]; rfl
  have high : highOf (argOf w) = 0#24 ↔ w.toNat % 2 ^ 32 / 256 = 0 := by
    rw [← BitVec.toNat_inj, highOf_toNat, argOf_toNat]; rfl
  have op : opOf w = 0x01#8 ↔ w.toNat / 2 ^ 32 = 0x01 := by
    rw [← BitVec.toNat_inj, opOf_toNat]; rfl
  have low : (lowOf (argOf w)).toNat = w.toNat % 256 := by
    rw [lowOf_argOf_eq_setWidth, BitVec.toNat_setWidth]
  rw [← opOf_mem_iff, ← opOf_mem_iff, ← opOf_mem_iff, ne_eq, ne_eq, ← arg, ← high, ← op, ← low]
  exact (decodeFields_row (opOf w)).rejects_iff (argOf w)

theorem serveWord_command_ok {w : CmdWord} {i : Instr} (h : decodeCommand w = .ok i) (s : State) :
    serveWord (.command w) s = exec i s := by
  simp only [serveWord, decode, h]

theorem serveWord_command_error {w : CmdWord} {e : DecodeError} (h : decodeCommand w = .error e) (s : State) :
    serveWord (.command w) s = execReserved s := by
  simp only [serveWord, decode, h]

/-- A block without a fault answers a reserved word `ILLEGAL`, and nothing else happens (R70). -/
theorem serveWord_reserved {w : CmdWord} {e : DecodeError} {s : State} (hf : s.blk.fault = false)
    (h : decodeCommand w = .error e) : serveWord (.command w) s = .next (s.respond .illegal 0 0) :=
  (serveWord_command_error h s).trans (State.command_rule hf)

/-- Settles O4: the opcode's row says which words are reserved. -/
theorem reservedWordsAnsweredIllegal : Obligations.ReservedWordsAnsweredIllegal := by
  refine fun w => ⟨decodeCommand_rejects_iff w, ?_⟩
  rintro s hf ⟨e, he⟩
  exact serveWord_reserved hf he

/-- Every instruction with an opcode is a command, and a halted block answers it `HALTED` (R69, R163). -/
theorem exec_halted_of_opcodeOf {i : Instr} {op : BitVec 8} {s : State} (hi : opcodeOf i = some op)
    (hf : s.blk.fault = true) : exec i s = .next (s.respond .halted 0 0) := by
  cases i with
  | rd sel =>
    cases hr : statusRegOf sel with
    | some r => exact (exec_rd_assigned hr s).trans (State.command_halted hf)
    | none =>
      simp only [exec, execRd, hr]
      exact State.command_halted hf
  | tick | edge | reset => cases hi
  | _ => exact State.command_halted hf

/-- A halted block answers every word `HALTED`, a command or not. -/
theorem serveWord_halted {s : State} (hf : s.blk.fault = true) (w : CmdWord) :
    serveWord (.command w) s = .next (s.respond .halted 0 0) := by
  cases h : decodeCommand w with
  | ok i => exact (serveWord_command_ok h s).trans (exec_halted_of_opcodeOf (opcodeOf_of_decodeCommand h) hf)
  | error e => exact (serveWord_command_error h s).trans (State.command_halted hf)

/-- Settles O8: a halted block first, then the two results of the decoder. -/
theorem commandDecodeOrder : Obligations.CommandDecodeOrder := by
  intro s w
  refine ⟨fun hf => serveWord_halted hf w, fun hf noCommand => ?_, fun i _ h => serveWord_command_ok h s⟩
  cases h : decodeCommand w with
  | ok i => exact absurd h (noCommand i)
  | error e => exact serveWord_reserved hf h

end Sys2Proof.Proofs.CommandWords
end

section
/-! Tick and press (40_tick_and_press.md): `@TICK` (R80), `@EDGE` (R81), `NOP` (R82), `RD` (R83), `TAKE_PRESS` (R84). -/

namespace Sys2Proof.Proofs.TickAndPress

open Sys2Proof Sys2Proof.Machine Sys2Proof.Laws Sys2Proof.Proofs.StateLayout Sys2Proof.Proofs.CommandWords

/-! What each instruction of the family does: the events in every state, the commands on a block without a fault (R69). -/

@[simp] theorem exec_tick (s : State) : exec .tick s = .next (s.setBlk s.blk.countTick).silent := rfl

@[simp] theorem exec_edge (s : State) : exec .edge s = .next (s.setBlk (s.blk.setPress true)).silent := rfl

theorem exec_nop {s : State} (hf : s.blk.fault = false) : exec .nop s = .next (s.respond .ok 0 0) :=
  State.command_rule hf

theorem exec_rd {s : State} {sel : BitVec 8} {r : StatusReg} (hr : statusRegOf sel = some r)
    (hf : s.blk.fault = false) : exec (.rd sel) s = .next (s.respond .ok (s.readStatus r) 0) :=
  (exec_rd_assigned hr s).trans (State.command_rule hf)

/-- A one-bit element zero-extended is the number it stands for (R6). -/
theorem zext32_bit (b : Bool) : zext32 (bit b) = if b then 1 else 0 := by
  cases b <;> rfl

theorem exec_takePress {s : State} (hf : s.blk.fault = false) :
    exec .takePress s = .next ((s.setBlk (s.blk.setPress false)).respond .ok (if s.blk.press then 1 else 0) 0) := by
  rw [← zext32_bit]
  exact State.command_rule hf

/-! Sequences of instructions, step by step. -/

theorem runInstrs_cons_of_next {i : Instr} {s t : State} (h : exec i s = .next t) (is : List Instr) :
    runInstrs (i :: is) s = runInstrs is t := by
  simp only [runInstrs, h]

/-- A sequence reaches a state exactly when its first step does and the rest goes on from there. -/
theorem runInstrs_cons_next {i : Instr} {is : List Instr} {s t : State} :
    runInstrs (i :: is) s = .next t ↔ ∃ u, exec i s = .next u ∧ runInstrs is u = .next t := by
  simp only [runInstrs]
  cases exec i s <;> simp

theorem runInstrs_append_of_next {is : List Instr} {s t : State} (h : runInstrs is s = .next t) (js : List Instr) :
    runInstrs (is ++ js) s = runInstrs js t := by
  induction is generalizing s with
  | nil =>
    cases h
    rfl
  | cons i is ih =>
    obtain ⟨u, hi, hu⟩ := runInstrs_cons_next.mp h
    rw [List.cons_append, runInstrs_cons_of_next hi]
    exact ih hu

/-- A take at the head of a sequence. -/
theorem runInstrs_takePress (s : State) (hf : s.blk.fault = false) (is : List Instr) :
    runInstrs (.takePress :: is) s =
      runInstrs is ((s.setBlk (s.blk.setPress false)).respond .ok (if s.blk.press then 1 else 0) 0) :=
  runInstrs_cons_of_next (exec_takePress hf) is

/-! `@TICK` (R80). -/

/-- `n` ticks count `n` modulo 2^32 and answer nothing; no tick leaves the answer of the step before. -/
theorem runInstrs_replicate_tick (s : State) (n : Nat) :
    runInstrs (List.replicate n .tick) s =
      .next { s with blk := { s.blk with ticks := s.blk.ticks + BitVec.ofNat 32 n },
                     rsp := if n = 0 then s.rsp else none } := by
  induction n generalizing s with
  | zero => simp [runInstrs]
  | succ n ih =>
    have sum : s.blk.ticks + 1#32 + BitVec.ofNat 32 n = s.blk.ticks + BitVec.ofNat 32 (n + 1) := by
      rw [BitVec.ofNat_add, BitVec.add_assoc, BitVec.add_comm 1#32]
    rw [List.replicate_succ, runInstrs_cons_of_next (exec_tick s), ih, ← sum]
    simp [State.setBlk, State.silent, Block.countTick]

/-- Settles O14: the step by its own equation, the wrap by arithmetic, `n` ticks by induction. -/
theorem tickAddsOneModulo : Obligations.TickAddsOneModulo := by
  refine ⟨rfl, exec_tick, ?_, runInstrs_replicate_tick⟩
  intro s t h last
  cases h
  change s.blk.ticks + 1 = 0#32
  rw [last]
  rfl

/-! `@EDGE` (R81). -/

/-- Writing the level `PRESS` already has changes nothing. -/
theorem setPress_eq_self {b : Block} {p : Bool} (h : b.press = p) : b.setPress p = b := by
  subst h
  rfl

/-- Bit 1 of the event vector is a rise of `btn_i` (R35, R68). -/
theorem events_bit1 (t : Instant) (was : Bool) : (t.events was).getLsbD 1 = (!was && t.btn) := by
  simp only [Instant.events, BitVec.getLsbD_append]
  simp

/-- Presses coalesce: an edge right after an edge changes nothing. -/
theorem runInstrs_edge_edge (is : List Instr) (s : State) :
    runInstrs (.edge :: .edge :: is) s = runInstrs (.edge :: is) s := rfl

/-- A take right after an edge returns the press and leaves none. -/
theorem runInstrs_edge_takePress {s : State} (hf : s.blk.fault = false) (is : List Instr) :
    runInstrs (.edge :: .takePress :: is) s = runInstrs is ((s.setBlk (s.blk.setPress false)).respond .ok 1 0) :=
  (runInstrs_cons_of_next (exec_edge s) _).trans 
    (runInstrs_takePress (s.setBlk (s.blk.setPress true)).silent hf is)

/-- Settles O15: a second edge adds nothing, so that the first take returns the only press. -/
theorem edgeSetsPress : Obligations.EdgeSetsPress := by
  refine ⟨rfl, events_bit1, exec_edge, ?kept, runInstrs_edge_edge [], ?taken⟩
  case kept =>
    intro s t hp h
    cases h
    exact setPress_eq_self hp
  case taken =>
    intro s hf
    have first := (runInstrs_edge_edge [.takePress] s).trans (runInstrs_edge_takePress hf [])
    exact ⟨_, _, first, rfl, exec_takePress hf, rfl⟩

/-! `NOP` (R82). -/

/-- Settles O20: `NOP` answers and writes nothing. -/
theorem nopOnlyAnswers : Obligations.NopOnlyAnswers :=
  ⟨rfl, fun _ hf => exec_nop hf⟩

/-! `RD` (R83). -/

/-- Format S reads the operand byte of an argument that is a zero-extended byte (R62). -/
theorem formatS_setWidth (op s : BitVec 8) (k : BitVec 8 → Except DecodeError Instr) :
    formatS op (s.setWidth 32) k = k s := by
  have hs := s.isLt
  have high : highOf (s.setWidth 32) = 0#24 := by
    apply BitVec.eq_of_toNat_eq
    rw [highOf_toNat, BitVec.toNat_setWidth, BitVec.toNat_ofNat]
    omega
  have low : lowOf (s.setWidth 32) = s := by
    apply BitVec.eq_of_toNat_eq
    rw [lowOf_toNat, BitVec.toNat_setWidth]
    omega
  rw [formatS, if_pos high, low]

/-- A command word of format S, written out as its three fields (R62). -/
theorem append_eq_commandWordS (op s : BitVec 8) : op ++ 0#24 ++ s = commandWordS op s := by
  apply BitVec.eq_of_toNat_eq
  have hs := s.isLt
  rw [commandWordS, commandWord_toNat, toNat_append_eq_add, toNat_append_eq_add, BitVec.toNat_setWidth,
    BitVec.toNat_ofNat]
  omega

/-- The word of `RD sel` asks for an assigned selector and for nothing else (R70 d). -/
theorem decodeCommand_rd (sel : BitVec 8) : decodeCommand (commandWordS 0x01#8 sel) = decodeSelector sel := by
  rw [decodeCommand, commandWordS, opOf_commandWord, argOf_commandWord]
  exact formatS_setWidth 0x01#8 sel decodeSelector

theorem decodeSelector_eq_ite (sel : BitVec 8) :
    decodeSelector sel = if sel.toNat ≤ 9 then .ok (.rd sel) else .error (.reservedSelector sel) := by
  simp only [decodeSelector, selectorAssigned, decide_eq_true_eq]

/-- `SW_STATUS` is the word of the sum of its fields (R31). -/
theorem swStatus_eq_ofNat (s : State) :
    s.swStatus = BitVec.ofNat 32 (s.blk.running.toNat + 2 * (if s.blk.lapCount.toNat = s.cfg.lapN then 1 else 0) +
      256 * s.blk.lapCount.toNat) := by
  rw [← lapFull_toNat, ← swStatus_toNat, BitVec.ofNat_toNat, BitVec.setWidth_eq]

/-- `TMR_MODE` of a block without a fault is the word of the sum of its other fields (R32). -/
theorem tmrMode_eq_ofNat {s : State} (hf : s.blk.fault = false) :
    s.tmrMode = BitVec.ofNat 32 (s.blk.tmr.mode.code.toNat + 16 * s.blk.tmr.chEn.toNat) := by
  have sum : s.tmrMode.toNat = s.blk.tmr.mode.code.toNat + 16 * s.blk.tmr.chEn.toNat := by
    simpa [hf] using tmrMode_toNat s
  rw [← sum, BitVec.ofNat_toNat, BitVec.setWidth_eq]

/-- Settles O21: `RD` answers the register its selector names; the two packed registers by the sums of their fields. -/
theorem rdAnswersStatusRegister : Obligations.RdAnswersStatusRegister := by
  refine ⟨fun sel => ?word, readStatus_setPress, fun s hf => ⟨exec_rd (r := .ticks) rfl hf, ?swStatus,
    exec_rd (r := .startTick) rfl hf, exec_rd (r := .lapStart) rfl hf, ?tmrMode, exec_rd (r := .prescaler) rfl hf,
    exec_rd (r := .period) rfl hf, exec_rd (r := .pulse) rfl hf, exec_rd (r := .freqMhz) rfl hf,
    exec_rd (r := .dutyPct) rfl hf, fun k => ?afterTicks⟩⟩
  case word => rw [append_eq_commandWordS, decodeCommand_rd, decodeSelector_eq_ite]
  case swStatus =>
    rw [← swStatus_eq_ofNat]
    exact exec_rd (r := .swStatus) rfl hf
  case tmrMode =>
    rw [← tmrMode_eq_ofNat hf]
    exact exec_rd (r := .tmrMode) rfl hf
  case afterTicks =>
    rw [runInstrs_append_of_next (runInstrs_replicate_tick s k)]
    refine runInstrs_cons_of_next (exec_rd (r := .ticks) rfl ?_) []
    exact hf

/-! `TAKE_PRESS` (R84). -/

/-- Settles O24: each take by its own equation, after an edge with the press set. -/
theorem takePressReadsAndClears : Obligations.TakePressReadsAndClears := by
  refine ⟨rfl, fun s hf => ⟨exec_takePress hf, runInstrs_edge_takePress hf [], ?takenTwice, ?edgeAfterTake⟩⟩
  case takenTwice =>
    exact (runInstrs_edge_takePress hf _).trans
      (runInstrs_takePress ((s.setBlk (s.blk.setPress false)).respond .ok 1 0) hf [])
  case edgeAfterTake => exact (runInstrs_takePress s hf _).trans (runInstrs_edge_takePress hf [])

end Sys2Proof.Proofs.TickAndPress
end

section
/-! The stopwatch (41_stopwatch.md): `SW_PRESS` (R100 to R104), `SW_UPDATE` (R105), what a running block keeps (R111),
`LAP_RD` (R112), `FMT` (R114) and the text form (R115). -/

namespace Sys2Proof.Proofs.Stopwatch

open Sys2Proof Sys2Proof.Machine Sys2Proof.Laws Sys2Proof.Proofs.StateLayout Sys2Proof.Proofs.CommandWords
  Sys2Proof.Proofs.TickAndPress

/-! `SW_PRESS`: the branches of R100, one equation each, on a block without a fault. -/

theorem lapRoom_eq_true_iff {s : State} : s.lapRoom = true ↔ s.blk.lapCount.toNat < s.cfg.lapN :=
  decide_eq_true_iff

theorem exec_swPress_noPress {s : State} (hf : s.blk.fault = false) (hp : s.blk.press = false) :
    exec .swPress s = .next ((s.setBlk (s.blk.setPress false)).respond .empty 0 0) :=
  (State.command_rule hf).trans (by simp [hp])

theorem exec_swPress_taken {s : State} (hf : s.blk.fault = false) (hp : s.blk.press = true) :
    exec .swPress s = .next s.pressTransition :=
  (State.command_rule hf).trans (by simp [hp])

/-- Row 1: Stopped to Running. -/
theorem exec_swPress_start {s : State} (hf : s.blk.fault = false) (hp : s.blk.press = true)
    (hr : s.blk.running = false) :
    exec .swPress s =
      .next ((s.setBlk ((s.blk.setPress false).startRun s.cfg s.blk.ticks)).respond .ok 1 s.blk.ticks) := by
  simp [exec_swPress_taken hf hp, State.pressTransition, hr]

/-- Row 2: a lap is recorded. -/
theorem exec_swPress_lap {s : State} (hf : s.blk.fault = false) (hp : s.blk.press = true) (hr : s.blk.running = true)
    (room : s.blk.lapCount.toNat < s.cfg.lapN) :
    exec .swPress s =
      .next ((s.setBlk ((s.blk.setPress false).recordLap s.blk.ticks s.blk.lapElapsed)).respond .ok 2
        s.blk.lapElapsed) := by
  simp [exec_swPress_taken hf hp, State.pressTransition, hr, lapRoom_eq_true_iff.mpr room]

/-- Row 3: the press is consumed, nothing else changes (R104). -/
theorem exec_swPress_full {s : State} (hf : s.blk.fault = false) (hp : s.blk.press = true) (hr : s.blk.running = true)
    (full : ¬ s.blk.lapCount.toNat < s.cfg.lapN) :
    exec .swPress s = .next ((s.setBlk (s.blk.setPress false)).respond .full 0 0) := by
  simp [exec_swPress_taken hf hp, State.pressTransition, hr, lapRoom_eq_true_iff, full]

/-- Settles O26: one branch per equation above. -/
theorem swPressTransitions : Obligations.SwPressTransitions := by
  refine ⟨rfl, fun s hf => ?_⟩
  split
  next hp => exact exec_swPress_noPress hf hp
  next hp =>
    rw [Bool.not_eq_false] at hp
    split
    next hr => exact exec_swPress_start hf hp hr
    next hr =>
      rw [Bool.not_eq_false] at hr
      split
      next room => exact exec_swPress_lap hf hp hr room
      next full => exact exec_swPress_full hf hp hr full

/-- Settles O28: row 3, the table having no room. -/
theorem pressAtFullCapacityConsumed : Obligations.PressAtFullCapacityConsumed :=
  fun _ hf hp hr full => exec_swPress_full hf hp hr full.not_lt

/-! Lap durations (R103). -/

/-- The state after `n` ticks and an edge. -/
def pressedAfter (s : State) (n : Nat) : State :=
  (s.setBlk { s.blk with ticks := s.blk.ticks + BitVec.ofNat 32 n, press := true }).silent

theorem runInstrs_singleton (i : Instr) (s : State) : runInstrs [i] s = exec i s := by
  simp only [runInstrs]
  cases exec i s <;> rfl

/-- A lap pass is one `SW_PRESS` with the ticks counted and the press set. -/
theorem runInstrs_lapPass (s : State) (n : Nat) : runInstrs (lapPass n) s = exec .swPress (pressedAfter s n) := by
  rw [lapPass, runInstrs_append_of_next (runInstrs_replicate_tick s n), runInstrs_cons_of_next (exec_edge _),
    runInstrs_singleton]
  rfl

theorem lapElapsed_toNat (b : Block) :
    b.lapElapsed.toNat = (b.ticks.toNat + 2 ^ 32 - b.lapStart.toNat) % 2 ^ 32 := by
  rw [Block.lapElapsed, BitVec.toNat_sub]
  have := b.lapStart.isLt
  congr 1
  omega

/-- A lap that began at the present tick lasts the ticks counted since. -/
theorem lapElapsed_pressedAfter {s : State} (begun : s.blk.lapStart = s.blk.ticks) (n : Nat) :
    (pressedAfter s n).blk.lapElapsed = BitVec.ofNat 32 n := by
  change s.blk.ticks + BitVec.ofNat 32 n - s.blk.lapStart = BitVec.ofNat 32 n
  rw [begun, BitVec.add_comm, BitVec.add_sub_cancel]

/-- Settles O27: the lap pass ends with row 2 of R100. -/
theorem lapDurationIsModularDifference : Obligations.LapDurationIsModularDifference := by
  refine ⟨lapElapsed_toNat, fun s n hf hr room begun => ?_⟩
  have lap := exec_swPress_lap (s := pressedAfter s n) hf rfl hr room
  refine ⟨_, _, (runInstrs_lapPass s n).trans lap, rfl, ?_, rfl⟩
  rw [lapElapsed_pressedAfter begun, BitVec.toNat_ofNat]

/-! `SW_UPDATE` (R105). -/

theorem exec_swUpdate {s : State} (hf : s.blk.fault = false) : exec .swUpdate s = .next s.updateAnswer :=
  State.command_rule hf

/-- Settles O29: the three branches of the answer. -/
theorem swUpdateAnswers : Obligations.SwUpdateAnswers := by
  refine ⟨rfl, fun s hf => ?_⟩
  rw [exec_swUpdate hf, State.updateAnswer]
  cases hr : s.blk.running
  · rfl
  · by_cases room : s.blk.lapCount.toNat < s.cfg.lapN
    · simp [lapRoom_eq_true_iff, room, State.respond, Block.totalElapsed, Block.lapElapsed]
    · simp [lapRoom_eq_true_iff, room, State.respond, Block.totalElapsed]

/-! What a running block keeps (R111). -/

/-- The stopwatch's elements other than `PRESS` are the same. -/
def SameRun (a b : Block) : Prop :=
  b.running = a.running ∧ b.startTick = a.startTick ∧ b.lapStart = a.lapStart ∧ b.laps = a.laps ∧
    b.lapCount = a.lapCount

/-- While running, no instruction but `@RESET` writes an element of the run, except that `SW_PRESS` records a lap. -/
theorem sameRun_or_recordLap_of_effect {s : State} {i : Instr} {b : Block} (e : Effect s i b)
    (hr : s.blk.running = true) (hi : i ≠ .reset) :
    SameRun s.blk b ∨
      s.lapRoom = true ∧ b = (s.blk.setPress false).recordLap s.blk.ticks s.blk.lapElapsed := by
  cases e with
  | resetDone => exact absurd rfl hi
  | started _ _ stopped => exact absurd hr (by simp [stopped])
  | lapped _ _ _ room => exact .inr ⟨room, rfl⟩
  | _ => exact .inl ⟨rfl, rfl, rfl, rfl, rfl⟩

/-- A table with room holds fewer than 255 laps (R3 a), so that counting one more does not wrap. -/
theorem recordLap_lapCount_toNat {s : State} (room : s.lapRoom = true) (now dur : Tick) :
    (s.blk.recordLap now dur).lapCount.toNat = s.blk.lapCount.toNat + 1 := by
  obtain ⟨⟨-, small⟩, -⟩ := s.cfg.ok
  have := lapRoom_eq_true_iff.mp room
  change (s.blk.lapCount + 1#8).toNat = _
  rw [BitVec.toNat_add, BitVec.toNat_ofNat]
  omega

/-- Recording a lap leaves the laps recorded before. -/
theorem recordLap_lap_of_lt {b : Block} {k : Nat} (hk : k < b.lapCount.toNat) (now dur : Tick) :
    (b.recordLap now dur).lap k = b.lap k := by
  simp [Block.lap, List.getElem?_set_ne hk.ne']

/-- Settles O41: an instruction keeps the elements of the run or records one more lap. -/
theorem noWayBackToStopped : Obligations.NoWayBackToStopped := by
  refine ⟨fun i s t _ hr hi h => ?_, fun s t h => ?_⟩
  · obtain ⟨-, -, e⟩ := exec_effect h
    obtain ⟨running, startTick, -, laps, lapCount⟩ | ⟨room, lapped⟩ := sameRun_or_recordLap_of_effect e hr hi
    · exact ⟨running.trans hr, startTick, by rw [lapCount], fun k _ => by rw [Block.lap, Block.lap, laps]⟩
    · have count := recordLap_lapCount_toNat room s.blk.ticks s.blk.lapElapsed
      rw [lapped]
      exact ⟨hr, rfl, (Nat.le_succ _).trans_eq count.symm, fun k hk =>
        recordLap_lap_of_lt hk s.blk.ticks s.blk.lapElapsed⟩
  · cases h
    exact ⟨rfl, rfl, rfl⟩

/-! `LAP_RD` (R112). -/

theorem decodeCommand_lapRd (i : BitVec 8) : decodeCommand (commandWordS 0x12#8 i) = .ok (.lapRd i) := by
  rw [decodeCommand, commandWordS, opOf_commandWord, argOf_commandWord]
  exact formatS_setWidth 0x12#8 i (fun i => .ok (.lapRd i))

theorem exec_lapRd_recorded {s : State} {i : BitVec 8} (hf : s.blk.fault = false)
    (hi : i.toNat < s.blk.lapCount.toNat) : exec (.lapRd i) s = .next (s.respond .ok (s.blk.lap i.toNat) 0) :=
  (State.command_rule hf).trans (by rw [if_pos hi])

theorem exec_lapRd_empty {s : State} {i : BitVec 8} (hf : s.blk.fault = false)
    (hi : ¬ i.toNat < s.blk.lapCount.toNat) : exec (.lapRd i) s = .next (s.respond .empty 0 0) :=
  (State.command_rule hf).trans (by rw [if_neg hi])

/-- In a lap table that meets R19, no lap is recorded outside the table or while stopped. -/
theorem not_lt_lapCount_of_lapTableOk {b : Block} {c : Cfg} (table : b.LapTableOk c) {i : Nat}
    (h : c.lapN ≤ i ∨ b.running = false) : ¬ i < b.lapCount.toNat := by
  rcases h with outside | stopped
  · exact (table.count.trans outside).not_gt
  · simp [table.stopped stopped]

/-- Settles O31: below `LAP_COUNT` the lap, else EMPTY. -/
theorem lapRdAnswers : Obligations.LapRdAnswers := by
  refine ⟨fun i => ?_, fun s i hf => ⟨?_, fun table h =>
    exec_lapRd_empty hf (not_lt_lapCount_of_lapTableOk table h)⟩⟩
  · rw [append_eq_commandWordS, decodeCommand_lapRd]
  · split
    next hi => exact exec_lapRd_recorded hf hi
    next hi => exact exec_lapRd_empty hf hi

/-! `FMT` (R114). -/

theorem decodeCommand_fmt (v : Data) : decodeCommand (commandWord 0x13#8 v) = .ok (.fmt v) := by
  rw [decodeCommand, opOf_commandWord, argOf_commandWord]
  rfl

theorem exec_fmt {s : State} (hf : s.blk.fault = false) (v : Data) :
    exec (.fmt v) s = .next (s.respond .ok (fmtWord v.toNat) (BitVec.ofNat 32 (minutesOf v.toNat))) :=
  State.command_rule hf

theorem secondsOf_le (v : Nat) : secondsOf v ≤ 59 := by
  unfold secondsOf
  omega

theorem hundredthsOf_le (v : Nat) : hundredthsOf v ≤ 99 := by
  unfold hundredthsOf
  omega

/-- The three parts give the value back. -/
theorem eq_minutes_seconds_hundredths (v : Nat) : v = 6000 * minutesOf v + 100 * secondsOf v + hundredthsOf v := by
  unfold minutesOf secondsOf hundredthsOf
  omega

/-- The minutes of a 32-bit value are not truncated. -/
theorem minutesOf_le (v : Data) : minutesOf v.toNat ≤ 715827 := by
  have := v.isLt
  unfold minutesOf
  omega

/-- The word `d0` of `FMT` as the sum of its two bytes. -/
theorem fmtWord_toNat (v : Nat) : (fmtWord v).toNat = 256 * secondsOf v + hundredthsOf v := by
  have := secondsOf_le v
  have := hundredthsOf_le v
  simp only [fmtWord, toNat_append_eq_add, BitVec.toNat_ofNat]
  omega

theorem fmtWord_seconds (v : Nat) : ((fmtWord v).extractLsb' 8 8).toNat = secondsOf v := by
  have := secondsOf_le v
  have := hundredthsOf_le v
  rw [BitVec.extractLsb'_toNat, fmtWord_toNat, Nat.shiftRight_eq_div_pow]
  omega

theorem fmtWord_hundredths (v : Nat) : ((fmtWord v).extractLsb' 0 8).toNat = hundredthsOf v := by
  have := hundredthsOf_le v
  rw [BitVec.extractLsb'_toNat, fmtWord_toNat, Nat.shiftRight_zero]
  omega

theorem fmtWord_high (v : Nat) : (fmtWord v).extractLsb' 16 16 = 0#16 := by
  have := secondsOf_le v
  have := hundredthsOf_le v
  apply BitVec.eq_of_toNat_eq
  rw [BitVec.extractLsb'_toNat, fmtWord_toNat, Nat.shiftRight_eq_div_pow, BitVec.toNat_ofNat]
  omega

/-- Settles O32: the fields of the answer are the three parts of the value. -/
theorem fmtSplitsCentiseconds : Obligations.FmtSplitsCentiseconds := by
  refine ⟨decodeCommand_fmt, fun s v hf => ⟨_, _, exec_fmt hf v, ?_⟩⟩
  have minutes : (BitVec.ofNat 32 (minutesOf v.toNat)).toNat = minutesOf v.toNat := by
    have := minutesOf_le v
    rw [BitVec.toNat_ofNat]
    omega
  rw [minutes, fmtWord_seconds, fmtWord_hundredths]
  exact ⟨rfl, rfl, rfl, fmtWord_high _, eq_minutes_seconds_hundredths _, minutesOf_le v, secondsOf_le _,
    hundredthsOf_le _⟩

/-! The text form (R115). -/

/-- Settles O33: the digits of the three parts, written as digits of the value. -/
theorem textFormBelowHundredMinutes : Obligations.TextFormBelowHundredMinutes := by
  refine fun v => ⟨fun below => ?_, fun above => if_neg above.not_gt⟩
  have minuteTens : v / 6000 / 10 = v / 60000 := Nat.div_div_eq_div_mul v 6000 10
  have secondTens : v % 6000 / 100 / 10 = v % 6000 / 1000 := Nat.div_div_eq_div_mul (v % 6000) 100 10
  have hundredthOnes : v % 100 % 10 = v % 10 := Nat.mod_mod_of_dvd v (by decide)
  rw [timeText, if_pos below, ← minuteTens, ← secondTens, ← hundredthOnes]
  rfl

end Sys2Proof.Proofs.Stopwatch
end

section
/-! The shared-timer arbiter (42_timer_arbiter.md): the maps of a reading (R132, R133), the check of R135, `CFG_TICK` (R137),
`CFG_BLINK` (R140), `CFG_DIM` (R143), and what brings the timer to `IDLE` (R146). -/

namespace Sys2Proof.Proofs.TimerArbiter

open Sys2Proof Sys2Proof.Machine Sys2Proof.Laws Sys2Proof.Proofs.CommandWords

/-! A reading scaled to a span: what the two maps of R132 and R133 share. -/

theorem vrefMv_pos (c : Cfg) : 0 < c.vrefMv := by
  obtain ⟨-, ⟨vref, -⟩, -⟩ := c.ok
  exact vref

theorem scaledReading_le {c : Cfg} {mv : Nat} (h : mv ≤ c.vrefMv) (span : Nat) : mv * span / c.vrefMv ≤ span :=
  Nat.div_le_of_le_mul (Nat.mul_le_mul_right span h)

theorem scaledReading_mono {mv mv' : Nat} (c : Cfg) (h : mv ≤ mv') (span : Nat) :
    mv * span / c.vrefMv ≤ mv' * span / c.vrefMv :=
  Nat.div_le_div_right (Nat.mul_le_mul_right span h)

theorem scaledReading_zero (c : Cfg) (span : Nat) : 0 * span / c.vrefMv = 0 := by
  rw [Nat.zero_mul, Nat.zero_div]

theorem scaledReading_vrefMv (c : Cfg) (span : Nat) : c.vrefMv * span / c.vrefMv = span :=
  Nat.mul_div_cancel_left span (vrefMv_pos c)

theorem blinkMhz_eq (c : Cfg) (mv : Nat) : blinkMhz c mv = 1000 + mv * 9000 / c.vrefMv := rfl

theorem dutyPct_eq (c : Cfg) (mv : Nat) : dutyPct c mv = mv * 100 / c.vrefMv := rfl

theorem le_blinkMhz (c : Cfg) (mv : Nat) : 1000 ≤ blinkMhz c mv := Nat.le_add_right 1000 _

theorem blinkMhz_le {c : Cfg} {mv : Nat} (h : mv ≤ c.vrefMv) : blinkMhz c mv ≤ 10000 :=
  Nat.add_le_add_left (scaledReading_le h 9000) 1000

theorem dutyPct_le {c : Cfg} {mv : Nat} (h : mv ≤ c.vrefMv) : dutyPct c mv ≤ 100 := scaledReading_le h 100

/-- Settles O49: the reading scaled to the span 9000, above 1000. -/
theorem blinkFrequencyMap : Obligations.BlinkFrequencyMap :=
  fun c => ⟨blinkMhz_eq c, fun mv h => ⟨le_blinkMhz c mv, blinkMhz_le h⟩,
    fun _ _ h => Nat.add_le_add_left (scaledReading_mono c h 9000) 1000,
    congrArg (1000 + ·) (scaledReading_zero c 9000), congrArg (1000 + ·) (scaledReading_vrefMv c 9000)⟩

/-- Settles O50: the reading scaled to the span 100. -/
theorem dutyMap : Obligations.DutyMap :=
  fun c => ⟨dutyPct_eq c, fun _ h => dutyPct_le h, fun _ _ h => scaledReading_mono c h 100,
    scaledReading_zero c 100, scaledReading_vrefMv c 100⟩

/-! The computed values fit their registers (R3 c to g, R139, R141). -/

theorem basePrescaler_bounds (c : Cfg) : 1 ≤ basePrescaler c ∧ basePrescaler c < 2 ^ 16 := by
  obtain ⟨-, -, prescaler, -⟩ := c.ok
  exact prescaler

theorem dimPeriod_bounds (c : Cfg) : 1 ≤ dimPeriod c ∧ dimPeriod c < 2 ^ 16 := by
  obtain ⟨-, -, -, carrier, -⟩ := c.ok
  exact carrier

theorem tickPeriod_bounds (c : Cfg) : 1 ≤ tickPeriod c ∧ tickPeriod c < 2 ^ 16 := by
  obtain ⟨-, -, -, -, tick, -⟩ := c.ok
  exact tick

theorem blinkPeriod_bounds (c : Cfg) : 2 ≤ c.blinkPeriod ∧ c.blinkPeriod < 2 ^ 16 := by
  obtain ⟨-, -, -, -, -, ⟨-, blink⟩, -⟩ := c.ok
  exact blink

/-- R3 (g) bounds the blink prescaler at the two ends of the frequency range, and it is antitone in the frequency. -/
theorem blinkPsc_bounds {c : Cfg} {f : Nat} (low : 1000 ≤ f) (high : f ≤ 10000) :
    1 ≤ blinkPsc c f ∧ blinkPsc c f < 2 ^ 16 := by
  obtain ⟨-, -, -, -, -, -, ⟨atHighest, atLowest⟩, -⟩ := c.ok
  obtain ⟨two_le, -⟩ := blinkPeriod_bounds c
  have pos : ∀ g, 1000 ≤ g → 0 < g * c.blinkPeriod := fun g hg => Nat.mul_pos (by omega) (by omega)
  constructor
  · exact atHighest.trans (Nat.div_le_div_left (Nat.mul_le_mul_right c.blinkPeriod high) (pos f low))
  · exact (Nat.div_le_div_left (Nat.mul_le_mul_right c.blinkPeriod low) (pos 1000 le_rfl)).trans_lt atLowest

/-- A duty of at most 100 percent is active for at most the whole period (R141). -/
theorem dimPulse_le {c : Cfg} {d : Nat} (h : d ≤ 100) : dimPulse c d ≤ dimPeriod c :=
  Nat.div_le_of_le_mul (Nat.mul_le_mul_right (dimPeriod c) h)

/-! The three configuration commands on a block without a fault. -/

theorem exec_cfgTick {s : State} (hf : s.blk.fault = false) :
    exec .cfgTick s = s.configure (SharedTimer.forTick s.cfg) 0 :=
  State.command_rule hf

theorem exec_cfgBlink {s : State} (hf : s.blk.fault = false) (mv : Data) :
    exec (.cfgBlink mv) s =
      s.configureReading mv (SharedTimer.forBlink s.cfg mv.toNat) (BitVec.ofNat 32 (blinkMhz s.cfg mv.toNat)) :=
  State.command_rule hf

theorem exec_cfgDim {s : State} (hf : s.blk.fault = false) (mv : Data) :
    exec (.cfgDim mv) s =
      s.configureReading mv (SharedTimer.forDim s.cfg mv.toNat) (BitVec.ofNat 32 (dutyPct s.cfg mv.toNat)) :=
  State.command_rule hf

/-- A reading above `VREF_MV` is refused before `cfg_ok` is looked at (R135). -/
theorem exec_cfgBlink_refused {s : State} {mv : Data} (hf : s.blk.fault = false) (above : s.cfg.vrefMv < mv.toNat) :
    exec (.cfgBlink mv) s = .refused (.readingAboveVref mv) :=
  (exec_cfgBlink hf mv).trans (State.configureReading_refused above)

theorem exec_cfgDim_refused {s : State} {mv : Data} (hf : s.blk.fault = false) (above : s.cfg.vrefMv < mv.toNat) :
    exec (.cfgDim mv) s = .refused (.readingAboveVref mv) :=
  (exec_cfgDim hf mv).trans (State.configureReading_refused above)

theorem exec_cfgBlink_inRange {s : State} {mv : Data} (hf : s.blk.fault = false) (h : mv.toNat ≤ s.cfg.vrefMv) :
    exec (.cfgBlink mv) s =
      s.configure (SharedTimer.forBlink s.cfg mv.toNat) (BitVec.ofNat 32 (blinkMhz s.cfg mv.toNat)) :=
  (exec_cfgBlink hf mv).trans (State.configureReading_inRange h)

theorem exec_cfgDim_inRange {s : State} {mv : Data} (hf : s.blk.fault = false) (h : mv.toNat ≤ s.cfg.vrefMv) :
    exec (.cfgDim mv) s =
      s.configure (SharedTimer.forDim s.cfg mv.toNat) (BitVec.ofNat 32 (dutyPct s.cfg mv.toNat)) :=
  (exec_cfgDim hf mv).trans (State.configureReading_inRange h)

/-- Settles O46: the halted check of R69 first, then the check of R135. -/
theorem readingAboveVrefRefused : Obligations.ReadingAboveVrefRefused :=
  fun _ mv above => ⟨fun hf => ⟨exec_cfgBlink_refused hf above, exec_cfgDim_refused hf above⟩,
    fun halted => ⟨exec_halted_of_opcodeOf (i := .cfgBlink mv) rfl halted,
      exec_halted_of_opcodeOf (i := .cfgDim mv) rfl halted⟩⟩

/-- Settles O42: the common configuration step with the values of the tick mode. -/
theorem cfgTickConfigures : Obligations.CfgTickConfigures := by
  refine ⟨rfl, fun s hf bad => ?fails, fun c => ?fit, fun s hf ok => ?configures⟩
  case fails => exact (exec_cfgTick hf).trans (State.configure_failed bad)
  case fit =>
    obtain ⟨prescaler, prescaler_lt⟩ := basePrescaler_bounds c
    obtain ⟨period, period_lt⟩ := tickPeriod_bounds c
    exact ⟨prescaler, prescaler_lt, period, period_lt⟩
  case configures => exact (exec_cfgTick hf).trans (State.configure_accepted ok)

/-- The word of an opcode and an argument is decoded by the opcode's row (R60, R65). -/
theorem decodeCommand_commandWord (op : BitVec 8) (arg : Data) :
    decodeCommand (commandWord op arg) = decodeFields op arg := by
  rw [decodeCommand, opOf_commandWord, argOf_commandWord]

/-- Settles O43: refused above `VREF_MV`, else the common configuration step with the values of the blink mode. -/
theorem cfgBlinkConfigures : Obligations.CfgBlinkConfigures := by
  refine ⟨decodeCommand_commandWord 0x21#8, fun s mv hf above => exec_cfgBlink_refused hf above,
    fun s mv hf bad h => ?fails, ?fit, ?configures⟩
  case fails => exact (exec_cfgBlink_inRange hf h).trans (State.configure_failed bad)
  case fit =>
    rintro c mv f h rfl
    rw [← blinkMhz_eq]
    have low := le_blinkMhz c mv
    have high := blinkMhz_le h
    obtain ⟨prescaler, prescaler_lt⟩ := blinkPsc_bounds (c := c) low high
    obtain ⟨-, period_lt⟩ := blinkPeriod_bounds c
    exact ⟨low, high, prescaler, prescaler_lt, period_lt⟩
  case configures =>
    rintro s mv f hf ok h rfl
    exact (exec_cfgBlink_inRange hf h).trans (State.configure_accepted ok)

/-- Settles O44: refused above `VREF_MV`, else the common configuration step with the values of the dimming mode. -/
theorem cfgDimConfigures : Obligations.CfgDimConfigures := by
  refine ⟨decodeCommand_commandWord 0x22#8, fun s mv hf above => exec_cfgDim_refused hf above,
    fun s mv hf bad h => ?fails, ?fit, ?configures⟩
  case fails => exact (exec_cfgDim_inRange hf h).trans (State.configure_failed bad)
  case fit =>
    rintro c mv d h rfl
    have duty := dutyPct_le h
    obtain ⟨-, period_lt⟩ := dimPeriod_bounds c
    obtain ⟨-, prescaler_lt⟩ := basePrescaler_bounds c
    exact ⟨duty, dimPulse_le duty, period_lt, prescaler_lt⟩
  case configures =>
    rintro s mv d per hf ok h rfl rfl
    exact (exec_cfgDim_inRange hf h).trans (State.configure_accepted ok)

/-! What brings the timer to `IDLE` (R146). -/

/-- A configuration that the peripheral rejects ends, where it has a next state, with `CfgFail` taken (R136, R161). -/
theorem eq_raiseCfgFail_of_exec {i : Instr} {s t : State} (hi : configuresTimer i = true) (hf : s.blk.fault = false)
    (bad : s.io.cfgOk = false) (h : exec i s = .next t) : t = s.raiseCfgFail := by
  have reading : ∀ {mv : Data} {x : SharedTimer} {d : Data},
      s.configureReading mv x d = .next t → t = s.raiseCfgFail := by
    intro mv x d h
    obtain ⟨-, refused⟩ | ⟨-, inRange⟩ := s.configureReading_cases mv x d
    · rw [refused] at h
      cases h
    · rw [inRange, State.configure_failed bad] at h
      cases h
      rfl
  cases i with
  | cfgTick =>
    rw [exec_cfgTick hf, State.configure_failed bad] at h
    cases h
    rfl
  | cfgBlink mv => exact reading ((exec_cfgBlink hf mv).symm.trans h)
  | cfgDim mv => exact reading ((exec_cfgDim hf mv).symm.trans h)
  | _ => cases hi

/-- Settles O55: an accepted configuration writes its own mode, and every other effect but those named keeps the timer. -/
theorem idleOnlyByResetOrFailure : Obligations.IdleOnlyByResetOrFailure := by
  refine ⟨fun i s t h idle => ?_, fun s t hf ok h => ?_⟩
  · obtain ⟨-, -, e⟩ := exec_effect h
    generalize t.blk = b at e idle
    cases e with
    | resetDone => exact .inr (.inl rfl)
    | failed _ hf bad hi =>
      rw [eq_raiseCfgFail_of_exec hi hf bad h]
      exact .inr (.inr rfl)
    | tickMode | blinkMode | dimMode => cases idle
    | _ => exact .inl idle
  · rw [exec_cfgTick hf, State.configure_accepted ok] at h
    cases h
    rfl

end Sys2Proof.Proofs.TimerArbiter
end

section
/-! The block's one exception (60_exceptions.md): `CfgFail` (R161), what keeps its fault latched, and the halted block (R163). -/

namespace Sys2Proof.Proofs.Exceptions

open Sys2Proof Sys2Proof.Machine Sys2Proof.Proofs.CommandWords Sys2Proof.Proofs.TickAndPress
  Sys2Proof.Proofs.TimerArbiter

/-- A configuration with its reading in range that the peripheral rejects takes `CfgFail` (R136, R161). -/
theorem exec_eq_raiseCfgFail {i : Instr} {s : State} (hi : configures s.cfg i = true) (hf : s.blk.fault = false)
    (bad : s.io.cfgOk = false) : exec i s = .next s.raiseCfgFail := by
  cases i with
  | cfgTick => exact (exec_cfgTick hf).trans (State.configure_failed bad)
  | cfgBlink mv => exact (exec_cfgBlink_inRange hf (of_decide_eq_true hi)).trans (State.configure_failed bad)
  | cfgDim mv => exact (exec_cfgDim_inRange hf (of_decide_eq_true hi)).trans (State.configure_failed bad)
  | _ => cases hi

/-- No effect but that of `@RESET` clears `FAULT`: the others write other elements or set it. -/
theorem fault_of_effect {s : State} {i : Instr} {b : Block} (e : Effect s i b) (hf : s.blk.fault = true)
    (hi : i ≠ .reset) : b.fault = true := by
  cases e with
  | resetDone => exact absurd rfl hi
  | failed => rfl
  | _ => exact hf

theorem fault_of_exec {i : Instr} {s t : State} (hf : s.blk.fault = true) (hi : i ≠ .reset) (h : exec i s = .next t) :
    t.blk.fault = true := by
  obtain ⟨-, -, e⟩ := exec_effect h
  exact fault_of_effect e hf hi

/-- Settles O45: the rejected configuration takes `CfgFail`, and only the effect of `@RESET` clears the fault. -/
theorem failedConfigurationLatchesFault : Obligations.FailedConfigurationLatchesFault :=
  ⟨rfl, fun _ _ _ => fault_of_exec, fun _ _ => exec_eq_raiseCfgFail⟩

/-- Without a reset the fault is still latched at the end of the run, so the run is no successful one (R163, R194). -/
theorem successful_eq_false_of_fault {ts : List TraceStep} {s : State} (hf : s.blk.fault = true)
    (noReset : ∀ u ∈ ts, u.instr ≠ .reset) : successful ts s = false := by
  induction ts generalizing s with
  | nil => simp [successful, hf]
  | cons u ts ih =>
    obtain ⟨hu, later⟩ := List.forall_mem_cons.mp noReset
    simp only [successful]
    cases h : u.run s with
    | next t =>
      have latched : t.blk.fault = true := fault_of_exec (s := s.setCfgOk u.cfgOk) hf hu h
      simp only [ih latched later, Bool.and_false]
    | fault f => rfl
    | refused r => rfl

/-- Settles O47: every word, legal or reserved, meets the halted check, the events have none, and the fault stays latched. -/
theorem haltedBlock : Obligations.HaltedBlock :=
  fun s hf => ⟨serveWord_halted hf, exec_tick s, exec_edge s, hf, fun _ => successful_eq_false_of_fault hf⟩

end Sys2Proof.Proofs.Exceptions
end

section
/-! Reset (70_reset_and_hazards.md): what `@RESET` writes, and what no other instruction does (R180). -/

namespace Sys2Proof.Proofs.Reset

open Sys2Proof Sys2Proof.Machine Sys2Proof.Proofs.Stopwatch Sys2Proof.Proofs.Exceptions

/-- While running, no effect but that of `@RESET` stops the stopwatch: it keeps the run or records one more lap. -/
theorem running_of_effect {s : State} {i : Instr} {b : Block} (e : Effect s i b) (hr : s.blk.running = true)
    (hi : i ≠ .reset) : b.running = true := by
  obtain ⟨running, -⟩ | ⟨-, rfl⟩ := sameRun_or_recordLap_of_effect e hr hi
  · exact running.trans hr
  · exact hr

/-- `TICKS` is written by `@TICK`, which counts one, and by `@RESET` alone. -/
theorem ticks_of_effect {s : State} {i : Instr} {b : Block} (e : Effect s i b) (hi : i ≠ .reset) :
    b.ticks = s.blk.ticks ∨ i = .tick ∧ b.ticks = s.blk.ticks + 1 := by
  cases e with
  | resetDone => exact absurd rfl hi
  | ticked => exact .inr ⟨rfl, rfl⟩
  | _ => exact .inl rfl

/-- An effect but that of `@RESET` that leaves the timer in `IDLE` found it there or is the failure, which latches the fault:
an accepted configuration writes a mode of its own. -/
theorem idle_or_fault_latched_of_effect {s : State} {i : Instr} {b : Block} (e : Effect s i b) (hi : i ≠ .reset)
    (idle : b.tmr.mode = .idle) : s.blk.tmr.mode = .idle ∨ s.blk.fault = false ∧ b.fault = true := by
  cases e with
  | resetDone => exact absurd rfl hi
  | failed _ hf => exact .inr ⟨hf, rfl⟩
  | tickMode | blinkMode | dimMode => cases idle
  | _ => exact .inl idle

/-- Settles O16: `@RESET` installs the reset block in every state, and the effects of the other instructions do none of the four. -/
theorem resetClearsAndOnlyResetDoes : Obligations.ResetClearsAndOnlyResetDoes := by
  refine ⟨rfl, fun s => ⟨s.resetBlock.silent, rfl, rfl, rfl, rfl⟩, fun i s t hi h => ?_⟩
  obtain ⟨-, -, e⟩ := exec_effect h
  exact ⟨fun hf => fault_of_effect e hf hi, fun hr => running_of_effect e hr hi, ticks_of_effect e hi,
    idle_or_fault_latched_of_effect e hi⟩

end Sys2Proof.Proofs.Reset
end

section
/-! The encoder (30_encoding.md): every instruction is read back from its encoding, and every command word from its decoding
(R60 to R65, R68, R71); the response bundle and the event vector (R66 to R68). -/

namespace Sys2Proof.Proofs.Encoding

open Sys2Proof Sys2Proof.Machine Sys2Proof.Laws Sys2Proof.Proofs.StateLayout Sys2Proof.Proofs.CommandWords
  Sys2Proof.Proofs.TickAndPress Sys2Proof.Proofs.Stopwatch Sys2Proof.Proofs.TimerArbiter

/-! From the instruction to its word and back. -/

/-- Settles O1: a word of format S by its byte, every other command word by the row of its opcode. -/
theorem encodedInstructionsDecode : Obligations.EncodedInstructionsDecode := by
  intro i hi
  cases i with
  | rd sel =>
    have assigned : sel.toNat ≤ 9 := of_decide_eq_true hi
    exact (decodeCommand_rd sel).trans (decodeSelector_eq_ok_iff.mpr ⟨assigned, rfl⟩)
  | lapRd i => exact decodeCommand_lapRd i
  | tick | edge | reset => rfl
  | _ => exact decodeCommand_commandWord _ _

/-! From the word to its instruction and back. -/

/-- An argument whose high bits are zero is its low byte, zero-extended (R62). -/
theorem eq_setWidth_lowOf {arg : Data} (high : highOf arg = 0#24) : arg = (lowOf arg).setWidth 32 := by
  have value : arg.toNat / 256 = 0 := by rw [← highOf_toNat, high]; rfl
  apply BitVec.eq_of_toNat_eq
  rw [BitVec.toNat_setWidth, lowOf_toNat]
  omega

/-- The only word of an instruction of format Z. -/
theorem eq_commandWord_of_formatZ {w : CmdWord} {i : Instr} {op : BitVec 8} (hi : opcodeOf i = some op)
    (row : ∀ arg, decodeFields op arg = formatZ op arg i) (h : decodeCommand w = .ok i) :
    w = commandWord op 0#32 := by
  obtain ⟨hop, harg⟩ := (decodeCommand_eq_ok_iff hi).mp h
  obtain ⟨zero, -⟩ := formatZ_eq_ok_iff.mp ((row _).symm.trans harg)
  exact eq_commandWord_iff.mpr ⟨hop, zero⟩

/-- A word of format S is its opcode with the operand byte, on which its row decides. -/
theorem eq_commandWordS_of_formatS {w : CmdWord} {i : Instr} {op : BitVec 8} {k : BitVec 8 → Except DecodeError Instr}
    (hi : opcodeOf i = some op) (row : ∀ arg, decodeFields op arg = formatS op arg k) (h : decodeCommand w = .ok i) :
    ∃ b, w = commandWordS op b ∧ k b = .ok i := by
  obtain ⟨hop, harg⟩ := (decodeCommand_eq_ok_iff hi).mp h
  obtain ⟨high, operand⟩ := formatS_eq_ok_iff.mp ((row _).symm.trans harg)
  exact ⟨lowOf (argOf w), eq_commandWord_iff.mpr ⟨hop, eq_setWidth_lowOf high⟩, operand⟩

/-- A word of format V is its opcode with the argument as the operand. -/
theorem eq_commandWord_of_formatV {w : CmdWord} {op : BitVec 8} {k : Data → Instr} {v : Data}
    (hk : opcodeOf (k v) = some op) (inj : Function.Injective k) (row : ∀ arg, decodeFields op arg = .ok (k arg))
    (h : decodeCommand w = .ok (k v)) : w = commandWord op v := by
  obtain ⟨hop, harg⟩ := (decodeCommand_eq_ok_iff hk).mp h
  have operand : k (argOf w) = k v := Except.ok.inj ((row _).symm.trans harg)
  exact eq_commandWord_iff.mpr ⟨hop, inj operand⟩

/-- Settles O2: each row by its format; the events have no command word. -/
theorem decodedCommandsReencode : Obligations.DecodedCommandsReencode := by
  intro w i h
  cases i with
  | nop | takePress | swPress | swUpdate | cfgTick =>
    obtain rfl := eq_commandWord_of_formatZ rfl (fun _ => rfl) h
    exact ⟨rfl, rfl⟩
  | rd sel =>
    obtain ⟨b, rfl, operand⟩ := eq_commandWordS_of_formatS (op := 0x01#8) (k := decodeSelector) rfl (fun _ => rfl) h
    obtain ⟨assigned, same⟩ := decodeSelector_eq_ok_iff.mp operand
    cases same
    exact ⟨rfl, decide_eq_true assigned⟩
  | lapRd i =>
    obtain ⟨b, rfl, operand⟩ :=
      eq_commandWordS_of_formatS (op := 0x12#8) (k := fun i => .ok (.lapRd i)) rfl (fun _ => rfl) h
    cases operand
    exact ⟨rfl, rfl⟩
  | fmt v =>
    obtain rfl := eq_commandWord_of_formatV rfl (fun _ _ => Instr.fmt.inj) (fun _ => rfl) h
    exact ⟨rfl, rfl⟩
  | cfgBlink mv =>
    obtain rfl := eq_commandWord_of_formatV rfl (fun _ _ => Instr.cfgBlink.inj) (fun _ => rfl) h
    exact ⟨rfl, rfl⟩
  | cfgDim mv =>
    obtain rfl := eq_commandWord_of_formatV rfl (fun _ _ => Instr.cfgDim.inj) (fun _ => rfl) h
    exact ⟨rfl, rfl⟩
  | tick | edge | reset => cases opcodeOf_of_decodeCommand h

/-- Settles O3: fixed words, decoded by computation. -/
theorem specWordsDecode : Obligations.SpecWordsDecode := by
  unfold Obligations.SpecWordsDecode
  decide

/-! The event vector (R68) and the response bundle (R66, R67). -/

/-- Bit 0 of the event vector is the pulse on `tick_i`. -/
theorem events_bit0 (t : Instant) (was : Bool) : (t.events was).getLsbD 0 = t.tick := by
  simp only [Instant.events, BitVec.getLsbD_append]
  simp

/-- Bit 2 of the event vector is the assertion of `rst_i`. -/
theorem events_bit2 (t : Instant) (was : Bool) : (t.events was).getLsbD 2 = t.rst := by
  simp only [Instant.events, BitVec.getLsbD_append]
  simp

/-- An event vector is an event exactly when it is that event's bit alone. -/
theorem decodeEvent_eq_ok_iff (v : EvtVec) : (decodeEvent v = .ok .tick ↔ v = 1#3) ∧
    (decodeEvent v = .ok .edge ↔ v = 2#3) ∧ (decodeEvent v = .ok .reset ↔ v = 4#3) := by
  revert v
  decide

/-- An event step shows no response (R68). -/
theorem rsp_of_exec_event {e : EventPin} {s t : State} (h : exec e.instr s = .next t) : t.rsp = none := by
  cases e <;> (cases h; rfl)

/-- Settles O6: the eight vectors by computation, the bits of an instant one by one, the response by the event. -/
theorem eventVectorsAndTheirPins : Obligations.EventVectorsAndTheirPins :=
  ⟨decodeEvent_eq_ok_iff, fun t was => ⟨events_bit0 t was, events_bit1 t was, events_bit2 t was⟩,
    fun _ _ _ => rsp_of_exec_event⟩

/-- The response bundle as a sum of its fields. -/
theorem bundle_toNat (r : Response) :
    r.bundle.toNat = r.st.code.toNat * 2 ^ 64 + r.d1.toNat * 2 ^ 32 + r.d0.toNat := by
  simp only [Response.bundle, toNat_append_eq_add]
  omega

/-- Settles O7: the codes of R67, and the bundle as a sum. -/
theorem statusCodesAndBundle : Obligations.StatusCodesAndBundle :=
  ⟨rfl, rfl, rfl, rfl, rfl, rfl, bundle_toNat⟩

end Sys2Proof.Proofs.Encoding
end

section
/-! The ports (10_state.md section 9, 20_memory.md section 3): what a fetch serves and keeps (R51, R181), the step that runs what was
fetched (R44, R49), and an instruction presented alone. -/

namespace Sys2Proof.Proofs.Ports

open Sys2Proof Sys2Proof.Machine Sys2Proof.Proofs.Encoding

/-! Serving a decoded word. -/

theorem serveWord_of_decode_ok {w : PortWord} {i : Instr} (h : decode w = .ok i) (s : State) :
    serveWord w s = exec i s := by
  simp only [serveWord, h]

theorem serveWord_of_decode_error {w : PortWord} {e : DecodeError} (h : decode w = .error e) (s : State) :
    serveWord w s = execReserved s := by
  simp only [serveWord, h]

/-! A step by its fetch. -/

theorem step_of_fetch_some {s : State} {w : PortWord} {p : Io} (h : s.io.fetch = (some w, p)) :
    step s = serveWord w (s.setIo p) := by
  simp only [step, h]

theorem step_of_fetch_none {s : State} {p : Io} (h : s.io.fetch = (none, p)) :
    step s = .next { s with io := p, rsp := none } := by
  simp only [step, h]
  rfl

/-- Settles O9: the fetch decides between the three, then the decoder. -/
theorem stepRunsTheDecodedInstruction : Obligations.StepRunsTheDecodedInstruction :=
  fun _ _ => ⟨fun _ _ hw hd => (step_of_fetch_some hw).trans (serveWord_of_decode_ok hd _),
    fun _ _ hw hd => (step_of_fetch_some hw).trans (serveWord_of_decode_error hd _), step_of_fetch_none⟩

/-! Which arrivals wait. -/

/-- The fetch serves the present instant, or the next one when nothing waits. -/
theorem fetch_eq_serve (r : Io) : r.fetch = (if r.idle then r.present else r).serve := by
  rw [Io.fetch, apply_ite Io.serve]

/-- An event waits when its bit is set, and then the vector holds that bit. -/
theorem waits_iff {p : Io} {e : EventPin} : p.waits e = true ↔ p.evt &&& e.bit = e.bit := by
  have bits : ∀ v : EvtVec, ∀ e : EventPin, ((v &&& e.bit != 0#3) = true ↔ v &&& e.bit = e.bit) := by
    intro v e
    revert v
    cases e <;> decide
  exact bits p.evt e

/-- The events of a vector are those of its three bits. -/
theorem evt_eq_zero_iff {p : Io} :
    p.evt = 0#3 ↔ p.waits .tick = false ∧ p.waits .edge = false ∧ p.waits .rst = false := by
  have bits : ∀ v : EvtVec, v = 0#3 ↔ (v &&& EventPin.tick.bit != 0#3) = false ∧
      (v &&& EventPin.edge.bit != 0#3) = false ∧ (v &&& EventPin.rst.bit != 0#3) = false := by decide
  exact bits p.evt

/-- A reset waits alone when the vector is its bit. -/
theorem evt_eq_rst_iff {p : Io} :
    p.evt = 4#3 ↔ p.waits .tick = false ∧ p.waits .edge = false ∧ p.waits .rst = true := by
  have bits : ∀ v : EvtVec, v = 4#3 ↔ (v &&& EventPin.tick.bit != 0#3) = false ∧
      (v &&& EventPin.edge.bit != 0#3) = false ∧ (v &&& EventPin.rst.bit != 0#3) = true := by decide
  exact bits p.evt

theorem mem_unordered_iff {p : Io} {w : PortWord} : w ∈ p.unordered ↔
    (w = .event .tick ∧ p.waits .tick = true) ∨ (w = .event .edge ∧ p.waits .edge = true) ∨
      ∃ c, w = .command c ∧ p.cmd = some c := by
  simp [Io.unordered, and_comm, eq_comm (b := w)]

theorem unordered_eq_nil_iff {p : Io} :
    p.unordered = [] ↔ p.waits .tick = false ∧ p.waits .edge = false ∧ p.cmd = none := by
  simp [Io.unordered]

/-- A word is ready when it waits, a reset only when nothing else does (R181). -/
theorem mem_ready_iff {p : Io} {w : PortWord} : w ∈ p.ready ↔
    w ∈ p.unordered ∨ (w = .event .rst ∧ p.cmd = none ∧ p.evt = 4#3) := by
  rw [evt_eq_rst_iff]
  by_cases h : p.unordered = []
  · obtain ⟨tick, edge, cmd⟩ := unordered_eq_nil_iff.mp h
    simp [Io.ready, h, tick, edge, cmd, and_comm]
  · have others : ¬ (p.cmd = none ∧ p.waits .tick = false ∧ p.waits .edge = false ∧ p.waits .rst = true) :=
      fun ⟨cmd, tick, edge, _⟩ => h (unordered_eq_nil_iff.mpr ⟨tick, edge, cmd⟩)
    simp [Io.ready, h, others]

/-- Nothing is ready exactly when nothing waits. -/
theorem ready_eq_nil_iff {p : Io} : p.ready = [] ↔ p.cmd = none ∧ p.evt = 0#3 := by
  rw [evt_eq_zero_iff]
  by_cases h : p.unordered = []
  · obtain ⟨tick, edge, cmd⟩ := unordered_eq_nil_iff.mp h
    simp [Io.ready, h, tick, edge, cmd]
  · have others : ¬ (p.cmd = none ∧ p.waits .tick = false ∧ p.waits .edge = false ∧ p.waits .rst = false) :=
      fun ⟨cmd, tick, edge, _⟩ => h (unordered_eq_nil_iff.mpr ⟨tick, edge, cmd⟩)
    simp [Io.ready, h, others]

theorem cmd_of_command_mem_ready {p : Io} {c : CmdWord} (h : .command c ∈ p.ready) : p.cmd = some c := by
  simpa [mem_ready_iff, mem_unordered_iff] using h

theorem evt_of_event_mem_ready {p : Io} {e : EventPin} (h : .event e ∈ p.ready) : p.evt &&& e.bit = e.bit := by
  rw [mem_ready_iff, mem_unordered_iff] at h
  rcases h with (⟨⟨⟩, waits⟩ | ⟨⟨⟩, waits⟩ | ⟨_, ⟨⟩, _⟩) | ⟨⟨⟩, -, alone⟩
  · exact waits_iff.mp waits
  · exact waits_iff.mp waits
  · rw [alone]
    rfl

theorem alone_of_rst_mem_ready {p : Io} (h : .event .rst ∈ p.ready) : p.cmd = none ∧ p.evt = 4#3 := by
  simpa [mem_ready_iff, mem_unordered_iff] using h

/-! What serving a word keeps. -/

/-- A draw advances the counter of draws and nothing else. -/
theorem drawn_eq (p : Io) : ∃ n, p.drawn = { p with draws := n } := by
  unfold Io.drawn
  split
  · exact ⟨p.draws, rfl⟩
  · exact ⟨p.draws + 1, rfl⟩

/-- Settles O11: `Io.serve_cases` at the instant that is served, then what is ready there and what taking it keeps. -/
theorem oneArrivalServedResetLast : Obligations.OneArrivalServedResetLast := by
  intro r q hq
  have served : r.fetch = q.serve := hq ▸ fetch_eq_serve r
  have idle : r.idle = true ↔ r.cmd = none ∧ r.evt = 0#3 := by rw [Io.idle, List.isEmpty_iff, ready_eq_nil_iff]
  refine ⟨idle, ?serves, ?servesNone, ?keeps, ?next⟩
  case serves =>
    intro waits
    obtain ⟨none, -⟩ | ⟨w, -, hw⟩ := q.serve_cases
    · obtain ⟨cmd, evt⟩ := ready_eq_nil_iff.mp none
      exact absurd waits (by simp [cmd, evt])
    · exact ⟨w, _, served.trans hw⟩
  case servesNone =>
    intro cmd evt
    have none := ready_eq_nil_iff.mpr ⟨cmd, evt⟩
    rw [served, Io.serve, none]
    rfl
  case keeps =>
    intro w p hw
    obtain ⟨-, hq'⟩ | ⟨w', ready, hq'⟩ := q.serve_cases
    · cases (served.trans hq').symm.trans hw
    · cases (served.trans hq').symm.trans hw
      obtain ⟨n, drawn⟩ := drawn_eq q
      rw [drawn]
      refine ⟨?_, ?_, ?_, ?_⟩
      · rintro c rfl
        exact ⟨cmd_of_command_mem_ready ready, rfl, rfl⟩
      · rintro e rfl
        exact ⟨evt_of_event_mem_ready ready, rfl, rfl⟩
      · rintro rfl
        exact alone_of_rst_mem_ready ready
      · cases w <;> exact ⟨rfl, rfl, rfl, rfl⟩
  case next =>
    intro nothing
    rw [hq, if_pos nothing]
    obtain ⟨t, rest, coming, present⟩ | ⟨coming, present⟩ := r.present_cases <;> rw [present]
    · exact ⟨t, .inl ⟨coming, rfl⟩, rfl, rfl, rfl, rfl⟩
    · exact ⟨Config.arrivals r.later, .inr ⟨coming, coming, rfl, rfl⟩, rfl, rfl, rfl, rfl⟩

/-! A word that waits alone. -/

/-- The only word that waits is served without a draw. -/
theorem serve_of_ready_singleton {p : Io} {w : PortWord} (h : p.ready = [w]) : p.serve = (some w, p.taken w) := by
  simp [Io.serve, Io.choice, Io.drawn, h]

theorem fetch_of_ready_singleton {p : Io} {w : PortWord} (h : p.ready = [w]) : p.fetch = (some w, p.taken w) := by
  rw [fetch_eq_serve, Io.idle, h]
  exact serve_of_ready_singleton h

/-- The word stands at the ports and nothing else waits. -/
def Alone (p : Io) : PortWord → Prop
  | .command c => p.cmd = some c ∧ p.evt = 0#3
  | .event e => p.cmd = none ∧ p.evt = e.bit

theorem alone_hold (p : Io) (w : PortWord) : Alone (p.hold w) w := by
  cases w <;> exact ⟨rfl, rfl⟩

theorem ready_of_alone {p : Io} {w : PortWord} (h : Alone p w) : p.ready = [w] := by
  cases w with
  | command c =>
    obtain ⟨cmd, evt⟩ := h
    simp [Io.ready, Io.unordered, Io.waits, cmd, evt]
  | event e =>
    obtain ⟨cmd, evt⟩ := h
    cases e <;> simp [Io.ready, Io.unordered, Io.waits, EventPin.bit, cmd, evt]

/-- What stood alone at the ports was taken: nothing waits any more. -/
theorem taken_of_alone {p : Io} {w : PortWord} (h : Alone p w) : p.taken w = { p with cmd := none, evt := 0 } := by
  cases w with
  | command c =>
    obtain ⟨-, evt⟩ := h
    simp [Io.taken, evt]
  | event e =>
    obtain ⟨cmd, evt⟩ := h
    simp [Io.taken, cmd, evt]

theorem taken_hold (p : Io) (w : PortWord) : (p.hold w).taken w = { p with cmd := none, evt := 0 } :=
  (taken_of_alone (alone_hold p w)).trans (by cases w <;> rfl)

/-- Settles O10: the encoding is fetched, and decodes to the instruction. -/
theorem presentedInstructionRunsNext : Obligations.PresentedInstructionRunsNext := by
  intro s i hi
  have fetched := fetch_of_ready_singleton (ready_of_alone (alone_hold s.io (encode i)))
  rw [taken_hold] at fetched
  exact (step_of_fetch_some (s := s.setIo (s.io.hold (encode i))) fetched).trans
    (serveWord_of_decode_ok (encodedInstructionsDecode i hi) _)

end Sys2Proof.Proofs.Ports
end

section
/-! What every step keeps: which instructions have a next state (R135, R160), the configuration (R182), the lap table (R17 to R19),
the laps that tile the time (R109), the shared-timer table (R29). -/

namespace Sys2Proof.Proofs.StepInvariants

open Sys2Proof Sys2Proof.Machine Sys2Proof.Laws Sys2Proof.Proofs.StateLayout Sys2Proof.Proofs.CommandWords
  Sys2Proof.Proofs.Stopwatch Sys2Proof.Proofs.TimerArbiter Sys2Proof.Proofs.Ports

/-! Which instructions have a next state (R135, R160). -/

theorem command_next {s : State} {r : Host.Outcome State Fault Refusal} (h : s.blk.fault = false → ∃ t, r = .next t) :
    ∃ t, s.command r = .next t := by
  obtain ⟨-, halted⟩ | ⟨hf, rule⟩ := s.command_cases r
  · exact ⟨_, halted⟩
  · rw [rule]
    exact h hf

theorem configure_next (s : State) (x : SharedTimer) (d : Data) : ∃ t, s.configure x d = .next t := by
  obtain ⟨-, accepted⟩ | ⟨-, failed⟩ := s.configure_cases x d
  · exact ⟨_, accepted⟩
  · exact ⟨_, failed⟩

theorem configureReading_next {s : State} {mv : Data} (h : mv.toNat ≤ s.cfg.vrefMv) (x : SharedTimer) (d : Data) :
    ∃ t, s.configureReading mv x d = .next t := by
  rw [State.configureReading_inRange h]
  exact configure_next s x d

/-- `RD` of a reserved selector is answered as the reserved word it would be (log entry 10). -/
theorem exec_rd_reserved {sel : BitVec 8} (h : statusRegOf sel = none) (s : State) :
    exec (.rd sel) s = execReserved s := by
  simp only [exec, execRd, h]

/-- Every instruction has a next state, unless it is a configuration from a reading above `VREF_MV` on a block without a fault. -/
theorem exec_next {i : Instr} {s : State}
    (h : ∀ mv, i = .cfgBlink mv ∨ i = .cfgDim mv → mv.toNat ≤ s.cfg.vrefMv ∨ s.blk.fault = true) :
    ∃ t, exec i s = .next t := by
  have inRange : ∀ mv, i = .cfgBlink mv ∨ i = .cfgDim mv → s.blk.fault = false → mv.toNat ≤ s.cfg.vrefMv :=
    fun mv hi hf => (h mv hi).resolve_right (by simp [hf])
  cases i with
  | rd sel =>
    cases hr : statusRegOf sel with
    | some r =>
      rw [exec_rd_assigned hr]
      exact command_next fun _ => ⟨_, rfl⟩
    | none =>
      rw [exec_rd_reserved hr]
      exact command_next fun _ => ⟨_, rfl⟩
  | cfgTick => exact command_next fun _ => configure_next s _ _
  | cfgBlink mv => exact command_next fun hf => configureReading_next (inRange mv (.inl rfl) hf) _ _
  | cfgDim mv => exact command_next fun hf => configureReading_next (inRange mv (.inr rfl) hf) _ _
  | tick | edge | reset => exact ⟨_, rfl⟩
  | _ => exact command_next fun _ => ⟨_, rfl⟩

/-- Settles O12: `exec_next`, and the refusals of R135 where its premise fails. -/
theorem onlyHighReadingsAreRefused : Obligations.OnlyHighReadingsAreRefused := by
  intro i s
  by_cases h : ∀ mv, i = .cfgBlink mv ∨ i = .cfgDim mv → mv.toNat ≤ s.cfg.vrefMv ∨ s.blk.fault = true
  · exact .inr ⟨h, exec_next h⟩
  · push Not at h
    obtain ⟨mv, hi, above, noFault⟩ := h
    rw [ne_eq, Bool.not_eq_true] at noFault
    refine .inl ⟨mv, hi, above, noFault, ?_⟩
    rcases hi with rfl | rfl
    · exact exec_cfgBlink_refused noFault above
    · exact exec_cfgDim_refused noFault above

/-! What a step of the machine can do. -/

theorem execReserved_next {s t : State} (h : execReserved s = .next t) : t.cfg = s.cfg ∧ t.blk = s.blk := by
  obtain ⟨-, answer⟩ | ⟨-, answer⟩ := execReserved_cases s <;> (rw [answer] at h; cases h; exact ⟨rfl, rfl⟩)

/-- A step keeps the configuration, and it keeps the block or has the effect of one instruction on it. -/
theorem step_effect {s t : State} (h : step s = .next t) :
    t.cfg = s.cfg ∧ (t.blk = s.blk ∨ ∃ i p, Effect (s.setIo p) i t.blk) := by
  rcases hp : s.io.fetch with ⟨w, p⟩
  cases w with
  | none =>
    rw [step_of_fetch_none hp] at h
    cases h
    exact ⟨rfl, .inl rfl⟩
  | some w =>
    rw [step_of_fetch_some hp] at h
    cases hd : decode w with
    | ok i =>
      rw [serveWord_of_decode_ok hd] at h
      obtain ⟨cfg, -, e⟩ := exec_effect h
      exact ⟨cfg, .inr ⟨i, p, e⟩⟩
    | error e =>
      rw [serveWord_of_decode_error hd] at h
      obtain ⟨cfg, blk⟩ := execReserved_next h
      exact ⟨cfg, .inl blk⟩

/-- Settles O13: `step_effect` says so. -/
theorem configurationNeverChanges : Obligations.ConfigurationNeverChanges :=
  fun _ _ h => (step_effect h).1

/-- A property of the configuration and the block that every effect keeps is kept by every step. -/
theorem step_keeps {P : Cfg → Block → Prop} (keeps : ∀ {s : State} {i b}, Effect s i b → P s.cfg s.blk → P s.cfg b)
    {s t : State} (h : step s = .next t) (hs : P s.cfg s.blk) : P t.cfg t.blk := by
  obtain ⟨cfg, same | ⟨i, p, e⟩⟩ := step_effect h
  · rw [cfg, same]
    exact hs
  · rw [cfg]
    exact keeps (s := s.setIo p) e hs

/-! The run of the stopwatch under the effects (R100, R180). -/

/-- An effect keeps the run, or is that of `@RESET`, or one of the first two rows of R100. -/
theorem run_of_effect {s : State} {i : Instr} {b : Block} (e : Effect s i b) :
    SameRun s.blk b ∨ (i = .reset ∧ b = Block.reset s.cfg) ∨
      (i = .swPress ∧ s.blk.running = false ∧ b = (s.blk.setPress false).startRun s.cfg s.blk.ticks) ∨
      (i = .swPress ∧ s.blk.running = true ∧ s.lapRoom = true ∧
        b = (s.blk.setPress false).recordLap s.blk.ticks s.blk.lapElapsed) := by
  cases e with
  | resetDone => exact .inr (.inl ⟨rfl, rfl⟩)
  | started _ _ stopped => exact .inr (.inr (.inl ⟨rfl, stopped, rfl⟩))
  | lapped _ _ running room => exact .inr (.inr (.inr ⟨rfl, running, room, rfl⟩))
  | _ => exact .inl ⟨rfl, rfl, rfl, rfl, rfl⟩

/-! The lap table (R17 to R19). -/

theorem lapTableOk_of_sameRun {a b : Block} {c : Cfg} (same : SameRun a b) (table : a.LapTableOk c) : b.LapTableOk c := by
  obtain ⟨running, -, -, laps, lapCount⟩ := same
  constructor
  · rw [laps]; exact table.size
  · rw [lapCount]; exact table.count
  · rw [running, lapCount]; exact table.stopped
  · rw [lapCount]
    unfold Block.lap
    rw [laps]
    exact table.unrecorded

theorem lapTableOk_reset (c : Cfg) : (Block.reset c).LapTableOk c where
  size := List.length_replicate
  count := Nat.zero_le _
  stopped _ := rfl
  unrecorded i _ := lap_reset c i

theorem lapTableOk_startRun (b : Block) (c : Cfg) (now : Tick) : (b.startRun c now).LapTableOk c where
  size := List.length_replicate
  count := Nat.zero_le _
  stopped _ := rfl
  unrecorded i _ := lap_reset c i

/-- Recording a lap of a running block writes the first unrecorded lap and counts it. -/
theorem lapTableOk_recordLap {s : State} (table : s.blk.LapTableOk s.cfg) (running : s.blk.running = true)
    (room : s.lapRoom = true) (now dur : Tick) : (s.blk.recordLap now dur).LapTableOk s.cfg where
  size := List.length_set.trans table.size
  count := by
    rw [recordLap_lapCount_toNat room]
    exact lapRoom_eq_true_iff.mp room
  stopped stopped := absurd running (by simp [show s.blk.running = false from stopped])
  unrecorded i hi := by
    rw [recordLap_lapCount_toNat room] at hi
    have other : (s.blk.recordLap now dur).lap i = s.blk.lap i := by
      simp [Block.lap, List.getElem?_set_ne (show s.blk.lapCount.toNat ≠ i by omega)]
    rw [other]
    exact table.unrecorded i (by omega)

theorem lapTableOk_of_effect {s : State} {i : Instr} {b : Block} (e : Effect s i b) (table : s.blk.LapTableOk s.cfg) :
    b.LapTableOk s.cfg := by
  obtain same | ⟨-, rfl⟩ | ⟨-, -, rfl⟩ | ⟨-, running, room, rfl⟩ := run_of_effect e
  · exact lapTableOk_of_sameRun same table
  · exact lapTableOk_reset s.cfg
  · exact lapTableOk_startRun _ s.cfg _
  · have recorded := lapTableOk_recordLap table running room s.blk.ticks s.blk.lapElapsed
    exact lapTableOk_of_sameRun (a := s.blk.recordLap _ _) ⟨rfl, rfl, rfl, rfl, rfl⟩ recorded

/-- Settles O35: every effect keeps the table. -/
theorem stepKeepsLapTable : Obligations.StepKeepsLapTable :=
  fun _ _ table h => step_keeps (P := fun c b => b.LapTableOk c) lapTableOk_of_effect h table

/-! The laps tile the time since the start (R109). -/

/-- Recording over an unrecorded lap adds its duration to the sum. -/
theorem sum_laps_set {b : Block} {c : Cfg} (table : b.LapTableOk c) (room : b.lapCount.toNat < c.lapN) (dur : Tick) :
    (b.laps.set b.lapCount.toNat dur).sum = b.laps.sum + dur := by
  have inside : b.lapCount.toNat < b.laps.length := table.size ▸ room
  have unrecorded : b.laps[b.lapCount.toNat] = 0 := by
    rw [← table.unrecorded _ le_rfl, Block.lap, List.getD_eq_getElem _ _ inside]
  rw [List.sum_set', dif_pos inside, unrecorded, neg_zero, zero_add]

theorem lapsTile_of_effect {s : State} {i : Instr} {b : Block} (e : Effect s i b) (table : s.blk.LapTableOk s.cfg)
    (tile : s.blk.LapsTile) : b.LapsTile := by
  intro hr
  obtain ⟨running, startTick, lapStart, laps, -⟩ | ⟨-, rfl⟩ | ⟨-, -, rfl⟩ | ⟨-, running, room, rfl⟩ := run_of_effect e
  · rw [laps, lapStart, startTick]
    exact tile (running ▸ hr)
  · cases hr
  · simp
  · change (s.blk.laps.set s.blk.lapCount.toNat s.blk.lapElapsed).sum = s.blk.ticks - s.blk.startTick
    rw [sum_laps_set table (lapRoom_eq_true_iff.mp room), tile running, Block.lapElapsed]
    abel

/-- Settles O36: with the table kept, every effect keeps the tiling. -/
theorem stepKeepsLapsTiling : Obligations.StepKeepsLapsTiling :=
  fun _ _ table tile h => (step_keeps (P := fun c b => b.LapTableOk c ∧ b.LapsTile)
    (fun e ⟨table, tile⟩ => ⟨lapTableOk_of_effect e table, lapsTile_of_effect e table tile⟩) h ⟨table, tile⟩).2

/-! The shared-timer table (R29). -/

theorem toNat_ofNat_of_lt {w n : Nat} (h : n < 2 ^ w) : (BitVec.ofNat w n).toNat = n := by
  rw [BitVec.toNat_ofNat, Nat.mod_eq_of_lt h]

theorem consistent_idle (c : Cfg) : SharedTimer.idle.Consistent c :=
  ⟨rfl, rfl, rfl, rfl, rfl, rfl⟩

theorem consistent_forTick (c : Cfg) : (SharedTimer.forTick c).Consistent c :=
  ⟨toNat_ofNat_of_lt (basePrescaler_bounds c).2, toNat_ofNat_of_lt (tickPeriod_bounds c).2, rfl, rfl, rfl, rfl⟩

theorem blinkMhz_lt {c : Cfg} {mv : Nat} (h : mv ≤ c.vrefMv) : blinkMhz c mv < 2 ^ 16 :=
  (blinkMhz_le h).trans_lt (by decide)

theorem forBlink_freqMhz_toNat {c : Cfg} {mv : Nat} (h : mv ≤ c.vrefMv) :
    (SharedTimer.forBlink c mv).freqMhz.toNat = blinkMhz c mv :=
  toNat_ofNat_of_lt (blinkMhz_lt h)

theorem forDim_dutyPct_toNat {c : Cfg} {mv : Nat} (h : mv ≤ c.vrefMv) :
    (SharedTimer.forDim c mv).dutyPct.toNat = dutyPct c mv :=
  toNat_ofNat_of_lt ((dutyPct_le h).trans_lt (by decide))

theorem consistent_forBlink {c : Cfg} {mv : Nat} (h : mv ≤ c.vrefMv) : (SharedTimer.forBlink c mv).Consistent c := by
  have freq := forBlink_freqMhz_toNat h
  obtain ⟨-, period⟩ := blinkPeriod_bounds c
  obtain ⟨-, prescaler⟩ := blinkPsc_bounds (c := c) (le_blinkMhz c mv) (blinkMhz_le h)
  refine ⟨mv, h, freq, ?_, toNat_ofNat_of_lt period, toNat_ofNat_of_lt ((Nat.div_le_self _ _).trans_lt period), rfl, rfl⟩
  rw [freq]
  exact toNat_ofNat_of_lt prescaler

theorem consistent_forDim {c : Cfg} {mv : Nat} (h : mv ≤ c.vrefMv) : (SharedTimer.forDim c mv).Consistent c := by
  obtain ⟨-, period_lt⟩ := dimPeriod_bounds c
  have duty := forDim_dutyPct_toNat h
  have period : (SharedTimer.forDim c mv).period.toNat = dimPeriod c := toNat_ofNat_of_lt period_lt
  refine ⟨mv, h, duty, toNat_ofNat_of_lt (basePrescaler_bounds c).2, period, ?_, rfl, rfl⟩
  rw [duty, period]
  exact toNat_ofNat_of_lt ((dimPulse_le (dutyPct_le h)).trans_lt period_lt)

theorem consistent_of_effect {s : State} {i : Instr} {b : Block} (e : Effect s i b)
    (table : s.blk.tmr.Consistent s.cfg) : b.tmr.Consistent s.cfg := by
  cases e with
  | tickMode => exact consistent_forTick s.cfg
  | blinkMode mv _ _ h => exact consistent_forBlink h
  | dimMode mv _ _ h => exact consistent_forDim h
  | failed | resetDone => exact consistent_idle s.cfg
  | _ => exact table

/-- In every row of the table the pulse is at most the period. -/
theorem pulse_le_period {x : SharedTimer} {c : Cfg} (table : x.Consistent c) : x.pulse.toNat ≤ x.period.toNat := by
  unfold SharedTimer.Consistent at table
  split at table
  next =>
    obtain ⟨-, -, pulse, -⟩ := table
    omega
  next =>
    obtain ⟨-, -, pulse, -⟩ := table
    omega
  next =>
    obtain ⟨mv, -, -, -, period, pulse, -⟩ := table
    omega
  next =>
    obtain ⟨mv, h, duty, -, -, pulse, -⟩ := table
    rw [pulse, duty]
    exact Nat.div_le_of_le_mul (Nat.mul_le_mul_right _ (dutyPct_le h))

/-- Settles O53: every effect keeps the table, and each of its rows bounds the pulse. -/
theorem stepKeepsTimerTable : Obligations.StepKeepsTimerTable := by
  intro s t table h
  have kept := step_keeps (P := fun c b => b.tmr.Consistent c) consistent_of_effect h table
  exact ⟨kept, pulse_le_period kept⟩

/-! The reset state. -/

/-- Settles O38: the three invariants of the reset block. -/
theorem resetMeetsInvariants : Obligations.ResetMeetsInvariants :=
  fun c => ⟨lapTableOk_reset c, (by intro running; cases running), consistent_idle c⟩

end Sys2Proof.Proofs.StepInvariants
end

section
/-! Who writes what, and what does not matter (R33, R48, R147): the write rights of 10_state.md section 7, the commands that only
read, and the parts of the state an instruction does not look at. -/

namespace Sys2Proof.Proofs.Frames

open Sys2Proof Sys2Proof.Machine Sys2Proof.Laws Sys2Proof.Proofs.StateLayout Sys2Proof.Proofs.CommandWords
  Sys2Proof.Proofs.TickAndPress Sys2Proof.Proofs.Stopwatch Sys2Proof.Proofs.TimerArbiter Sys2Proof.Proofs.StepInvariants

/-! The write rights (R33), element by element. -/

/-- `@TICK` counts one, `@RESET` aside no other instruction writes `TICKS`. -/
theorem ticks_eq_of_effect {s : State} {i : Instr} {b : Block} (e : Effect s i b) (hi : i ≠ .reset) :
    b.ticks = if i = .tick then s.blk.ticks + 1 else s.blk.ticks := by
  cases e with
  | resetDone => exact absurd rfl hi
  | unchanged i command =>
    have : i ≠ .tick := by rintro rfl; cases command
    simp [this]
  | failed i _ _ conf =>
    have : i ≠ .tick := by rintro rfl; cases conf
    simp [this]
  | _ => rfl

/-- Only `@EDGE` sets `PRESS`. -/
theorem press_of_effect {s : State} {i : Instr} {b : Block} (e : Effect s i b) (hi : i ≠ .edge) (hb : b.press = true) :
    s.blk.press = true := by
  cases e with
  | pressed => exact absurd rfl hi
  | resetDone | taken | noPress | started | lapped | full => cases hb
  | _ => exact hb

theorem press_eq_of_effect {s : State} {i : Instr} {b : Block} (e : Effect s i b) (take : i ≠ .takePress)
    (press : i ≠ .swPress) (edge : i ≠ .edge) (reset : i ≠ .reset) : b.press = s.blk.press := by
  cases e with
  | pressed => exact absurd rfl edge
  | resetDone => exact absurd rfl reset
  | taken => exact absurd rfl take
  | noPress | started | lapped | full => exact absurd rfl press
  | _ => rfl

theorem sameRun_of_effect {s : State} {i : Instr} {b : Block} (e : Effect s i b) (press : i ≠ .swPress)
    (reset : i ≠ .reset) : SameRun s.blk b := by
  obtain same | ⟨hi, -⟩ | ⟨hi, -⟩ | ⟨hi, -⟩ := run_of_effect e
  · exact same
  · exact absurd hi reset
  · exact absurd hi press
  · exact absurd hi press

theorem timer_of_effect {s : State} {i : Instr} {b : Block} (e : Effect s i b) (conf : configuresTimer i = false)
    (reset : i ≠ .reset) : b.tmr = s.blk.tmr ∧ b.fault = s.blk.fault := by
  cases e with
  | tickMode | blinkMode | dimMode => cases conf
  | failed _ _ _ hi => exact absurd conf (by simp [hi])
  | resetDone => exact absurd rfl reset
  | _ => exact ⟨rfl, rfl⟩

/-- Settles O57: element by element, from the effect of the instruction. -/
theorem writeRightsByAgent : Obligations.WriteRightsByAgent := by
  intro i s t h
  obtain ⟨-, -, e⟩ := exec_effect h
  refine ⟨?tick, ?edge, ?ticks, press_of_effect e, press_eq_of_effect e, sameRun_of_effect e, ?timer, ?reset⟩
  case tick | edge | reset => rintro rfl; cases h; rfl
  case ticks => exact fun tick reset => (ticks_eq_of_effect e reset).trans (if_neg tick)
  case timer =>
    intro tick blink dim reset
    refine timer_of_effect e ?_ reset
    cases i with
    | cfgTick => exact absurd rfl tick
    | cfgBlink mv => exact absurd rfl (blink mv)
    | cfgDim mv => exact absurd rfl (dim mv)
    | _ => rfl

/-! Two states that a command treats alike: `ψ` makes the next state of the second from that of the first. -/

theorem command_commutes {s s' t : State} {ψ : State → State} {r r' : Host.Outcome State Fault Refusal}
    (h : s.command r = .next t) (fault : s'.blk.fault = s.blk.fault)
    (halted : s'.respond .halted 0 0 = ψ (s.respond .halted 0 0)) (rule : r = .next t → r' = .next (ψ t)) :
    s'.command r' = .next (ψ t) := by
  obtain ⟨hf, answer⟩ | ⟨hf, answer⟩ := s.command_cases r <;> rw [answer] at h
  · cases h
    rw [State.command_halted (fault.trans hf), halted]
  · rw [State.command_rule (fault.trans hf)]
    exact rule h

theorem configure_commutes {s s' t : State} {ψ : State → State} {x : SharedTimer} {d : Data}
    (level : s'.io.cfgOk = s.io.cfgOk)
    (accepted : (s'.setBlk (s'.blk.setTimer x)).respond .ok d 0 = ψ ((s.setBlk (s.blk.setTimer x)).respond .ok d 0))
    (failed : s'.raiseCfgFail = ψ s.raiseCfgFail) (h : s.configure x d = .next t) : s'.configure x d = .next (ψ t) := by
  obtain ⟨ok, answer⟩ | ⟨bad, answer⟩ := s.configure_cases x d <;> rw [answer] at h <;> cases h
  · rw [State.configure_accepted (level.trans ok), accepted]
  · rw [State.configure_failed (level.trans bad), failed]

theorem configureReading_commutes {s s' t t' : State} {mv : Data} {x : SharedTimer} {d : Data}
    (h : s.configureReading mv x d = .next t) (cfg : s'.cfg = s.cfg)
    (conf : s.configure x d = .next t → s'.configure x d = .next t') : s'.configureReading mv x d = .next t' := by
  obtain ⟨-, answer⟩ | ⟨inRange, answer⟩ := s.configureReading_cases mv x d <;> rw [answer] at h
  · cases h
  · rw [State.configureReading_inRange (cfg ▸ inRange)]
    exact conf h

/-! What the stopwatch's half does not look at: the shared timer, the response port, the input ports (R147). -/

/-- `@TICK`, `@EDGE`, and the commands of the stopwatch and the press. -/
def watchInstr : Instr → Bool
  | .takePress | .swPress | .swUpdate | .lapRd _ | .fmt _ | .tick | .edge => true
  | .nop | .rd _ | .cfgTick | .cfgBlink _ | .cfgDim _ | .reset => false

theorem timer_of_effect_watch {s : State} {i : Instr} {b : Block} (e : Effect s i b) (hi : watchInstr i = true) :
    b.tmr = s.blk.tmr ∧ b.fault = s.blk.fault := by
  cases i with
  | cfgTick | cfgBlink | cfgDim | reset => cases hi
  | _ => exact timer_of_effect e rfl (by simp)

/-- Another shared timer, response and input ports. -/
def withOthers (s : State) (x : SharedTimer) (q : Option Response) (p : Io) : State :=
  { s with blk := s.blk.setTimer x, rsp := q, io := p }

theorem pressTransition_withOthers (s : State) (x : SharedTimer) (q : Option Response) (p : Io) :
    (withOthers s x q p).pressTransition = withOthers s.pressTransition x s.pressTransition.rsp p := by
  change (if !s.blk.running then _ else if s.lapRoom then _ else _) = _
  unfold State.pressTransition
  split
  · rfl
  · split <;> rfl

theorem updateAnswer_withOthers (s : State) (x : SharedTimer) (q : Option Response) (p : Io) :
    (withOthers s x q p).updateAnswer = withOthers s.updateAnswer x s.updateAnswer.rsp p := by
  change (if !s.blk.running then _ else if s.lapRoom then _ else _) = _
  unfold State.updateAnswer
  split
  · rfl
  · split <;> rfl

theorem exec_withOthers {i : Instr} {s t : State} (hi : watchInstr i = true) (h : exec i s = .next t)
    (x : SharedTimer) (q : Option Response) (p : Io) :
    exec i (withOthers s x q p) = .next (withOthers t x t.rsp p) := by
  have commutes {r r' : Host.Outcome State Fault Refusal} (h : s.command r = .next t)
      (rule : r = .next t → r' = .next (withOthers t x t.rsp p)) :
      (withOthers s x q p).command r' = .next (withOthers t x t.rsp p) :=
    command_commutes (ψ := fun t => withOthers t x t.rsp p) h rfl rfl rule
  cases i with
  | takePress | fmt => exact commutes h (by rintro ⟨⟩; rfl)
  | tick | edge => cases h; rfl
  | swPress =>
    refine commutes h ?_
    rintro ⟨⟩
    change Host.Outcome.next (if s.blk.press then _ else _) = _
    split
    · rw [pressTransition_withOthers]
    · rfl
  | swUpdate =>
    refine commutes h ?_
    rintro ⟨⟩
    rw [updateAnswer_withOthers]
  | lapRd k =>
    refine commutes h ?_
    rintro ⟨⟩
    change Host.Outcome.next (if k.toNat < s.blk.lapCount.toNat then _ else _) = _
    split <;> rfl
  | _ => cases hi

/-! The response port and the input ports, the level of `cfg_ok_i` aside, matter to no instruction. -/

/-- Another response and other input ports. -/
def withPorts (s : State) (q : Option Response) (p : Io) : State := { s with rsp := q, io := p }

theorem withOthers_same (s : State) (q : Option Response) (p : Io) : withOthers s s.blk.tmr q p = withPorts s q p := rfl

theorem exec_withPorts {i : Instr} {s t : State} (h : exec i s = .next t) (q : Option Response) {p : Io}
    (level : p.cfgOk = s.io.cfgOk) : exec i (withPorts s q p) = .next (withPorts t t.rsp p) := by
  have commutes {r r' : Host.Outcome State Fault Refusal} (h : s.command r = .next t)
      (rule : r = .next t → r' = .next (withPorts t t.rsp p)) :
      (withPorts s q p).command r' = .next (withPorts t t.rsp p) :=
    command_commutes (ψ := fun t => withPorts t t.rsp p) h rfl rfl rule
  have conf {x : SharedTimer} {d : Data} :
      s.configure x d = .next t → (withPorts s q p).configure x d = .next (withPorts t t.rsp p) :=
    configure_commutes (ψ := fun t => withPorts t t.rsp p) level rfl rfl
  by_cases hi : watchInstr i = true
  · obtain ⟨-, -, e⟩ := exec_effect h
    obtain ⟨tmr, -⟩ := timer_of_effect_watch e hi
    rw [← withOthers_same s, ← withOthers_same t, tmr]
    exact exec_withOthers hi h s.blk.tmr q p
  · cases i with
    | nop => exact commutes h (by rintro ⟨⟩; rfl)
    | rd sel =>
      cases hr : statusRegOf sel with
      | some r =>
        rw [exec_rd_assigned hr] at h ⊢
        exact commutes h (by rintro ⟨⟩; cases r <;> rfl)
      | none =>
        rw [exec_rd_reserved hr] at h ⊢
        exact commutes h (by rintro ⟨⟩; rfl)
    | cfgTick => exact commutes h conf
    | cfgBlink | cfgDim =>
      exact commutes h (configureReading_commutes · rfl conf)
    | reset => cases h; rfl
    | _ => exact absurd rfl hi

/-! The commands that only read (R48). -/

theorem command_answers {s u : State} (h : ∃ r, u = { s with rsp := some r }) :
    ∃ r, s.command (.next u) = .next { s with rsp := some r } := by
  obtain ⟨r, rfl⟩ := h
  obtain ⟨-, answer⟩ | ⟨-, answer⟩ := s.command_cases (.next { s with rsp := some r })
  · exact ⟨_, answer⟩
  · exact ⟨_, answer⟩

theorem exec_readsOnly {i : Instr} (hi : readsOnly i = true) (s : State) :
    ∃ r, exec i s = .next { s with rsp := some r } := by
  cases i with
  | nop | fmt => exact command_answers ⟨_, rfl⟩
  | rd sel =>
    cases hr : statusRegOf sel with
    | some r =>
      rw [exec_rd_assigned hr]
      exact command_answers ⟨_, rfl⟩
    | none =>
      rw [exec_rd_reserved hr]
      exact command_answers ⟨_, rfl⟩
  | swUpdate => exact command_answers s.updateAnswer_eq
  | lapRd k => exact command_answers (by split <;> exact ⟨_, rfl⟩)
  | _ => cases hi

/-- Settles O58: the command only answers, and its answer does not depend on the answer before. -/
theorem readingCommandsChangeNothing : Obligations.ReadingCommandsChangeNothing := by
  intro i s hi
  have reads : readsOnly i = true := by
    rcases hi with rfl | ⟨_, rfl⟩ | rfl | ⟨_, rfl⟩ | ⟨_, rfl⟩ <;> rfl
  obtain ⟨r, h⟩ := exec_readsOnly reads s
  exact ⟨r, h, exec_withPorts h (some r) rfl⟩

/-! The configurations and the stopwatch's half do not disturb each other (R147). -/

/-- A configuration command writes the timer and `FAULT` only. -/
theorem blk_of_effect_configures {s : State} {i : Instr} {b : Block} (e : Effect s i b)
    (conf : configuresTimer i = true) : b = { s.blk with tmr := b.tmr, fault := b.fault } := by
  cases e with
  | unchanged | tickMode | blinkMode | dimMode | failed => rfl
  | _ => cases conf

/-- The block `b` with the timer and `FAULT` of the state's block. -/
def onBlock (b : Block) (t : State) : State := t.setBlk { b with tmr := t.blk.tmr, fault := t.blk.fault }

/-- A configuration command looks at the timer and `FAULT` only. -/
theorem exec_onBlock {i : Instr} {s t : State} (conf : configuresTimer i = true) (h : exec i s = .next t) (b : Block) :
    exec i (onBlock b s) = .next (onBlock b t) := by
  have commutes {r r' : Host.Outcome State Fault Refusal} (h : s.command r = .next t)
      (rule : r = .next t → r' = .next (onBlock b t)) : (onBlock b s).command r' = .next (onBlock b t) :=
    command_commutes h rfl rfl rule
  have configured {x : SharedTimer} {d : Data} :
      s.configure x d = .next t → (onBlock b s).configure x d = .next (onBlock b t) :=
    configure_commutes rfl rfl rfl
  cases i with
  | cfgTick => exact commutes h configured
  | cfgBlink | cfgDim => exact commutes h (configureReading_commutes · rfl configured)
  | _ => cases conf

/-- Settles O56: each half writes its own elements and looks at its own elements. -/
theorem arbiterAndStopwatchIndependent : Obligations.ArbiterAndStopwatchIndependent := by
  refine ⟨fun i s b hi tmr fault t h => ?arbiter, fun i s x hi => ?stopwatch⟩
  case arbiter =>
    have conf : configuresTimer i = true := by
      rcases hi with rfl | ⟨_, rfl⟩ | ⟨_, rfl⟩ <;> rfl
    obtain ⟨-, -, e⟩ := exec_effect h
    have same : onBlock b s = s.setBlk b := by rw [onBlock, ← tmr, ← fault]
    exact ⟨blk_of_effect_configures e conf, (congrArg (exec i) same).symm.trans (exec_onBlock conf h b)⟩
  case stopwatch =>
    have watch : watchInstr i = true := by
      rcases hi with rfl | rfl | rfl | ⟨_, rfl⟩ | ⟨_, rfl⟩ | rfl | rfl <;> rfl
    obtain ⟨t, h⟩ : ∃ t, exec i s = .next t :=
      exec_next (by rintro mv (rfl | rfl) <;> cases watch)
    obtain ⟨-, io, e⟩ := exec_effect h
    obtain ⟨tmr, fault⟩ := timer_of_effect_watch e watch
    have same : exec i (withOthers s x s.rsp s.io) = .next (withOthers t x t.rsp t.io) := by
      rw [io]
      exact exec_withOthers watch h x s.rsp s.io
    exact ⟨t, h, tmr, fault, same⟩

/-! The outputs (R28, R35). -/

/-- Settles O59: the ports by definition, `PwmMode` by the mode. -/
theorem outputsShowTheSettings : Obligations.OutputsShowTheSettings := by
  intro s
  refine ⟨rfl, rfl, rfl, rfl, rfl, rfl, rfl, ?response, ?idle, ?blink, ?dim⟩
  case response =>
    intro r hr
    simp [State.outputs, hr]
  case idle => cases hm : s.blk.tmr.mode <;> simp [SharedTimer.pwmMode, hm]
  case blink =>
    intro hm
    simp [SharedTimer.pwmMode, hm]
  case dim =>
    intro hm
    simp [SharedTimer.pwmMode, hm]

/-! The first answers (R184) and the orders of simultaneous events (R166). -/

/-- Settles O18: each answer of the reset block by the equation of its command. -/
theorem firstAnswersAfterReset : Obligations.FirstAnswersAfterReset := by
  refine ⟨rfl, fun c => ?_⟩
  have tmrMode : (State.resetIn c).tmrMode = 0 := tmrMode_eq_ofNat rfl
  have readTmrMode := exec_rd (s := State.resetIn c) (sel := 0x04#8) (r := .tmrMode) rfl rfl
  rw [State.readStatus, tmrMode] at readTmrMode
  exact ⟨exec_rd (r := .ticks) rfl rfl, exec_takePress rfl, exec_swPress_noPress rfl rfl,
    exec_swUpdate rfl, fun i => exec_lapRd_empty rfl (Nat.not_lt_zero _), readTmrMode⟩

/-- Settles O19: the two events write different elements; a take sees the press of an edge before it. -/
theorem simultaneousEventOrders : Obligations.SimultaneousEventOrders := by
  refine fun s => ⟨rfl, fun hf hp => ⟨runInstrs_edge_takePress hf [], ?edgeAfter, ?none⟩⟩
  case edgeAfter => exact (runInstrs_takePress s hf _).trans (runInstrs_edge_takePress hf [])
  case none =>
    rw [exec_takePress hf, setPress_eq_self hp, hp]
    rfl

end Sys2Proof.Proofs.Frames
end

section
/-! Configurations of the shared timer (42_timer_arbiter.md): the values fit their registers (R139, R141), the end readings
(R138, R142), and no mode leaves a residue (R144). -/

namespace Sys2Proof.Proofs.TimerModes

open Sys2Proof Sys2Proof.Machine Sys2Proof.Proofs.TickAndPress Sys2Proof.Proofs.Stopwatch Sys2Proof.Proofs.TimerArbiter
  Sys2Proof.Proofs.StepInvariants

/-! The values fit their registers (R3, R139, R141). -/

/-- The blink period is even (R3 f), so that its half is exact. -/
theorem two_mul_half_blinkPeriod (c : Cfg) : 2 * (c.blinkPeriod / 2) = c.blinkPeriod := by
  obtain ⟨-, -, -, -, -, ⟨even, -⟩, -⟩ := c.ok
  omega

theorem cntHz_pos (c : Cfg) : 1 ≤ c.cntHz :=
  (dimPeriod_bounds c).1.trans (Nat.div_le_self _ _)

/-- Rounding the blink prescaler down keeps the realised frequency at the target or above it (R139). -/
theorem blinkPsc_realises (c : Cfg) (f : Nat) : f * (blinkPsc c f * c.blinkPeriod) ≤ c.fInHz * 1000 :=
  calc f * (blinkPsc c f * c.blinkPeriod) = c.fInHz * 1000 / (f * c.blinkPeriod) * (f * c.blinkPeriod) :=
        Nat.mul_left_comm _ _ _
    _ ≤ c.fInHz * 1000 := Nat.div_mul_le_self _ _

/-- Settles O52: the bounds of R3 at the ends of the ranges of frequency and duty. -/
theorem timerValuesFitTheirRegisters : Obligations.TimerValuesFitTheirRegisters := by
  intro c mv h
  obtain ⟨prescaler, prescaler_lt⟩ := basePrescaler_bounds c
  obtain ⟨tick, tick_lt⟩ := tickPeriod_bounds c
  obtain ⟨dim, dim_lt⟩ := dimPeriod_bounds c
  obtain ⟨two_le, blink_lt⟩ := blinkPeriod_bounds c
  obtain ⟨psc, psc_lt⟩ := blinkPsc_bounds (c := c) (le_blinkMhz c mv) (blinkMhz_le h)
  exact ⟨prescaler, prescaler_lt, tick, tick_lt, dim, dim_lt, dimPulse_le (dutyPct_le h),
    (dutyPct_le h).trans_lt (by decide), psc, psc_lt, blinkMhz_lt h, two_mul_half_blinkPeriod c, blink_lt, vrefMv_pos c,
    cntHz_pos c, Nat.mul_le_mul (le_blinkMhz c mv) two_le, blinkPsc_realises c _⟩

/-! The end readings (R138, R142). -/

/-- `VREF_MV` is a reading of the operand's width (R3 b). -/
theorem toNat_ofNat_vrefMv (c : Cfg) : (BitVec.ofNat 32 c.vrefMv).toNat = c.vrefMv := by
  obtain ⟨-, ⟨-, fits⟩, -⟩ := c.ok
  exact toNat_ofNat_of_lt fits

theorem exec_cfgBlink_accepted {s : State} {mv : Data} {n : Nat} (hf : s.blk.fault = false) (ok : s.io.cfgOk = true)
    (hn : mv.toNat = n) (h : n ≤ s.cfg.vrefMv) :
    ∃ t, exec (.cfgBlink mv) s = .next t ∧ t.blk.tmr = SharedTimer.forBlink s.cfg n := by
  subst hn
  exact ⟨_, (exec_cfgBlink_inRange hf h).trans (State.configure_accepted ok), rfl⟩

theorem exec_cfgDim_accepted {s : State} {mv : Data} {n : Nat} (hf : s.blk.fault = false) (ok : s.io.cfgOk = true)
    (hn : mv.toNat = n) (h : n ≤ s.cfg.vrefMv) :
    ∃ t, exec (.cfgDim mv) s = .next t ∧ t.blk.tmr = SharedTimer.forDim s.cfg n := by
  subst hn
  exact ⟨_, (exec_cfgDim_inRange hf h).trans (State.configure_accepted ok), rfl⟩

/-- No duty, no pulse. -/
theorem dimPulse_zero (c : Cfg) : dimPulse c 0 = 0 := by
  rw [dimPulse, Nat.zero_mul, Nat.zero_div]

/-- The full duty is the whole period. -/
theorem dimPulse_hundred (c : Cfg) : dimPulse c 100 = dimPeriod c :=
  Nat.mul_div_cancel_left _ (by decide)

/-- Settles O51: the two maps at their ends. -/
theorem boundaryReadings : Obligations.BoundaryReadings := by
  intro s hf ok
  have full := toNat_ofNat_vrefMv s.cfg
  refine ⟨?slowest, ?fastest, ?dark, ?bright⟩
  case slowest =>
    obtain ⟨t, h, tmr⟩ := exec_cfgBlink_accepted (mv := 0) (n := 0) hf ok rfl (Nat.zero_le _)
    refine ⟨t, h, ?_⟩
    rw [tmr, forBlink_freqMhz_toNat (Nat.zero_le _), blinkMhz_eq, scaledReading_zero]
  case fastest =>
    obtain ⟨t, h, tmr⟩ := exec_cfgBlink_accepted hf ok full le_rfl
    refine ⟨t, h, ?_⟩
    rw [tmr, forBlink_freqMhz_toNat le_rfl, blinkMhz_eq, scaledReading_vrefMv]
  case dark =>
    obtain ⟨t, h, tmr⟩ := exec_cfgDim_accepted (mv := 0) (n := 0) hf ok rfl (Nat.zero_le _)
    have duty : dutyPct s.cfg 0 = 0 := scaledReading_zero s.cfg 100
    refine ⟨t, h, ?_, ?_⟩
    · rw [tmr, forDim_dutyPct_toNat (Nat.zero_le _), duty]
    · rw [tmr, SharedTimer.forDim, duty, dimPulse_zero]
      rfl
  case bright =>
    obtain ⟨t, h, tmr⟩ := exec_cfgDim_accepted hf ok full le_rfl
    have duty : dutyPct s.cfg s.cfg.vrefMv = 100 := scaledReading_vrefMv s.cfg 100
    refine ⟨t, h, ?_, ?_⟩
    · rw [tmr, forDim_dutyPct_toNat le_rfl, duty]
    · rw [tmr, SharedTimer.forDim, duty, dimPulse_hundred]

/-! No residue (R144). -/

/-- What an accepted configuration command writes to the timer: its operand and the configuration decide. -/
def timerOf (c : Cfg) : Instr → SharedTimer
  | .cfgTick => SharedTimer.forTick c
  | .cfgBlink mv => SharedTimer.forBlink c mv.toNat
  | .cfgDim mv => SharedTimer.forDim c mv.toNat
  | .nop | .rd _ | .takePress | .swPress | .swUpdate | .lapRd _ | .fmt _ | .tick | .edge | .reset => SharedTimer.idle

/-- An accepted configuration writes the timer as a whole and nothing else of the block. -/
theorem exec_configures_accepted {i : Instr} {s : State} (hi : configures s.cfg i = true) (hf : s.blk.fault = false)
    (ok : s.io.cfgOk = true) :
    ∃ t, exec i s = .next t ∧ t.cfg = s.cfg ∧ t.io = s.io ∧ t.blk = s.blk.setTimer (timerOf s.cfg i) := by
  cases i with
  | cfgTick => exact ⟨_, (exec_cfgTick hf).trans (State.configure_accepted ok), rfl, rfl, rfl⟩
  | cfgBlink mv =>
    exact ⟨_, (exec_cfgBlink_inRange hf (of_decide_eq_true hi)).trans (State.configure_accepted ok), rfl, rfl, rfl⟩
  | cfgDim mv =>
    exact ⟨_, (exec_cfgDim_inRange hf (of_decide_eq_true hi)).trans (State.configure_accepted ok), rfl, rfl, rfl⟩
  | _ => cases hi

/-- Accepted configurations write nothing of the block but the timer. -/
theorem runInstrs_configures {is : List Instr} {s : State} (hf : s.blk.fault = false) (ok : s.io.cfgOk = true)
    (his : ∀ j ∈ is, configures s.cfg j = true) :
    ∃ t x, runInstrs is s = .next t ∧ t.cfg = s.cfg ∧ t.io = s.io ∧ t.blk = s.blk.setTimer x := by
  induction is generalizing s with
  | nil => exact ⟨s, s.blk.tmr, rfl, rfl, rfl, rfl⟩
  | cons i is ih =>
    obtain ⟨hi, later⟩ := List.forall_mem_cons.mp his
    obtain ⟨u, hu, cfg, io, blk⟩ := exec_configures_accepted hi hf ok
    obtain ⟨t, x, ht, cfg', io', blk'⟩ := ih (s := u) (by rw [blk]; exact hf) (by rw [io]; exact ok) (by rwa [cfg])
    refine ⟨t, x, (runInstrs_cons_of_next hu is).trans ht, cfg'.trans cfg, io'.trans io, ?_⟩
    rw [blk', blk]
    rfl

/-- Settles O54: the last configuration writes all seven elements, the ones before it nothing else. -/
theorem modeSwitchesLeaveNoResidue : Obligations.ModeSwitchesLeaveNoResidue := by
  intro s is i hf ok his hi
  obtain ⟨v, x, hv, cfg, io, before⟩ := runInstrs_configures hf ok his
  obtain ⟨t, ht, -, -, last⟩ := exec_configures_accepted (i := i) (s := v) (by rwa [cfg]) (by rw [before]; exact hf)
    (by rw [io]; exact ok)
  obtain ⟨u, hu, -, -, alone⟩ := exec_configures_accepted (i := i) (s := State.resetIn s.cfg) hi rfl rfl
  have run : runInstrs (is ++ [i]) s = .next t := by
    rw [runInstrs_append_of_next hv, runInstrs_singleton, ht]
  rw [before, cfg] at last
  have tmr : t.blk.tmr = timerOf s.cfg i := by
    rw [last]
    rfl
  refine ⟨t, u, run, hu, ?_, fun hi => ?_, fun mv hi => ?_, fun mv hi => ?_⟩
  · rw [last, alone]
    rfl
  all_goals
    rw [tmr, hi]
    rfl

end Sys2Proof.Proofs.TimerModes
end

section
/-! Along executions (R49): presses returned (R87), repeated updates (R106), elapsed times (R19 c), recorded laps (R110), the halted
block (R163, R168), and the laps as gaps between presses (R108, R109). -/

namespace Sys2Proof.Proofs.Executions

open Sys2Proof Sys2Proof.Machine Sys2Proof.Laws Sys2Proof.Proofs.CommandWords Sys2Proof.Proofs.TickAndPress
  Sys2Proof.Proofs.Stopwatch Sys2Proof.Proofs.Exceptions Sys2Proof.Proofs.StepInvariants Sys2Proof.Proofs.Frames

/-- A relation of blocks that is reflexive and transitive, and that the effects of an execution's instructions keep, holds from the
execution's start to its end, whatever the draws. -/
theorem runTrace_keeps {R : Cfg → Block → Block → Prop} (refl : ∀ c b, R c b b)
    (trans : ∀ {c a b d}, R c a b → R c b d → R c a d) {ts : List TraceStep}
    (steps : ∀ i ∈ instrsOf ts, ∀ {s : State} {b : Block}, Effect s i b → R s.cfg s.blk b) {s t : State}
    (h : runTrace ts s = .next t) : t.cfg = s.cfg ∧ R s.cfg s.blk t.blk := by
  induction ts generalizing s with
  | nil =>
    cases h
    exact ⟨rfl, refl _ _⟩
  | cons u ts ih =>
    obtain ⟨first, later⟩ := List.forall_mem_cons.mp steps
    obtain ⟨v, hv, ht⟩ := runTrace_cons_next.mp h
    obtain ⟨cfg, -, e⟩ := u.run_effect hv
    obtain ⟨cfg', rest⟩ := ih later ht
    rw [cfg] at rest
    exact ⟨cfg'.trans cfg, trans (first (s := s.setCfgOk u.cfgOk) e) rest⟩

/-! Presses returned (R87). -/

/-- A returned press was pending and is pending no more, and a take returned it. -/
theorem press_of_pressReturned {i : Instr} {s t : State} (h : exec i s = .next t)
    (returned : pressReturned i t.rsp = true) :
    s.blk.press = true ∧ t.blk.press = false ∧ (i = .takePress ∨ i = .swPress) := by
  have take : i = .takePress ∨ i = .swPress := by
    cases i with
    | takePress => exact .inl rfl
    | swPress => exact .inr rfl
    | _ => cases returned
  have noFault : s.blk.fault = false := by
    by_contra hf
    rw [Bool.not_eq_false] at hf
    rcases take with rfl | rfl <;> (rw [exec_halted_of_opcodeOf rfl hf] at h; cases h; cases returned)
  rcases take with rfl | rfl
  · rw [exec_takePress noFault] at h
    cases h
    cases hp : s.blk.press with
    | true => exact ⟨rfl, rfl, .inl rfl⟩
    | false =>
      rw [hp] at returned
      cases returned
  · cases hp : s.blk.press with
    | true =>
      rw [exec_swPress_taken noFault hp] at h
      cases h
      obtain ⟨-, row⟩ | ⟨-, -, row⟩ | ⟨-, -, row⟩ := s.pressTransition_cases <;> rw [row] <;>
        exact ⟨rfl, rfl, .inr rfl⟩
    | false =>
      rw [exec_swPress_noPress noFault hp] at h
      cases h
      cases returned

/-- One step returns at most the press that was pending or that it sets, and only a take returns one. -/
theorem pressReturned_le {i : Instr} {s t : State} (h : exec i s = .next t) :
    (pressReturned i t.rsp).toNat + t.blk.press.toNat ≤ [i].count .edge + s.blk.press.toNat ∧
    (pressReturned i t.rsp).toNat ≤ [i].count .takePress + [i].count .swPress := by
  cases returned : pressReturned i t.rsp with
  | true =>
    obtain ⟨before, after, rfl | rfl⟩ := press_of_pressReturned h returned <;> simp [before, after]
  | false =>
    refine ⟨?_, Nat.zero_le _⟩
    by_cases hi : i = .edge
    · have := Bool.toNat_le t.blk.press
      simp [hi]
      omega
    · obtain ⟨-, -, e⟩ := exec_effect h
      have kept := Bool.toNat_le_toNat (press_of_effect e hi)
      simp only [Bool.toNat_false]
      omega

theorem pressesReturned_cons {u : TraceStep} {s v : State} (h : u.run s = .next v) (ts : List TraceStep) :
    pressesReturned (u :: ts) s = (pressReturned u.instr v.rsp).toNat + pressesReturned ts v := by
  simp only [pressesReturned, h]

theorem count_instrsOf_cons (i : Instr) (u : TraceStep) (ts : List TraceStep) :
    (instrsOf (u :: ts)).count i = [u.instr].count i + (instrsOf ts).count i :=
  List.count_append (l₁ := [u.instr])

/-- Settles O25: step by step. -/
theorem pressesReturnedAtMostEdges : Obligations.PressesReturnedAtMostEdges := by
  intro ts
  induction ts with
  | nil =>
    intro s t h
    cases h
    exact ⟨le_rfl, le_rfl⟩
  | cons u ts ih =>
    intro s t h
    obtain ⟨v, hv, ht⟩ := runTrace_cons_next.mp h
    obtain ⟨edges, takes⟩ := ih v t ht
    obtain ⟨edge, take⟩ := pressReturned_le (s := s.setCfgOk u.cfgOk) hv
    rw [State.setCfgOk_blk] at edge
    simp only [pressesReturned_cons hv, count_instrsOf_cons]
    omega

/-! Repeated updates (R106). -/

theorem sameRun_trans {a b d : Block} (h : SameRun a b) (h' : SameRun b d) : SameRun a d := by
  obtain ⟨running, startTick, lapStart, laps, lapCount⟩ := h
  obtain ⟨running', startTick', lapStart', laps', lapCount'⟩ := h'
  exact ⟨running'.trans running, startTick'.trans startTick, lapStart'.trans lapStart, laps'.trans laps,
    lapCount'.trans lapCount⟩

/-- Nothing `SW_UPDATE` answers from has changed, and a fault stays latched. -/
def SameUpdate (a b : Block) : Prop :=
  SameRun a b ∧ b.ticks = a.ticks ∧ (a.fault = true → b.fault = true)

theorem sameUpdate_of_effect {s : State} {i : Instr} {b : Block} (e : Effect s i b)
    (hi : i ≠ .tick ∧ i ≠ .swPress ∧ i ≠ .reset) : SameUpdate s.blk b := by
  obtain ⟨tick, press, reset⟩ := hi
  exact ⟨sameRun_of_effect e press reset, (ticks_eq_of_effect e reset).trans (if_neg tick),
    fun hf => fault_of_effect e hf reset⟩

/-- Settles O30: what the first update answered from is still there at the second. -/
theorem swUpdateIsIdempotent : Obligations.SwUpdateIsIdempotent := by
  intro first ts s t hfirst hts h noFault
  have quiet : ∀ i ∈ instrsOf (first :: ts), i ≠ .tick ∧ i ≠ .swPress ∧ i ≠ .reset :=
    List.forall_mem_cons.mpr ⟨by simp [hfirst], hts⟩
  obtain ⟨cfg, ⟨running, startTick, lapStart, -, lapCount⟩, ticks, latched⟩ :=
    runTrace_keeps (R := fun _ => SameUpdate) (fun _ _ => ⟨⟨rfl, rfl, rfl, rfl, rfl⟩, rfl, id⟩)
      (fun ⟨run, ticks, latched⟩ ⟨run', ticks', latched'⟩ =>
        ⟨sameRun_trans run run', ticks'.trans ticks, latched' ∘ latched⟩)
      (fun i hi _ _ e => sameUpdate_of_effect e (quiet i hi)) h
  have noFault' : s.blk.fault = false := by
    by_contra hf
    rw [Bool.not_eq_false] at hf
    simp [latched hf] at noFault
  obtain ⟨-, answers⟩ := swUpdateAnswers
  refine ⟨_, answers s noFault', (answers t noFault).trans ?_⟩
  rw [cfg, running, startTick, lapStart, lapCount, ticks]

/-! Elapsed times (R19 c). -/

theorem ne_reset_of_effect {s : State} {i : Instr} {b : Block} (e : Effect s i b) (hr : b.running = true) :
    i ≠ .reset := by
  rintro rfl
  cases e with
  | unchanged _ command => cases command
  | resetDone => cases hr
  | failed _ _ _ conf => cases conf

/-- A time elapsed since `start` counts one more at a tick. -/
theorem elapsed_eq {now now' start : Tick} {i : Instr} {n : Nat} (h : now - start = BitVec.ofNat 32 n)
    (hn : now' = if i = .tick then now + 1 else now) :
    now' - start = BitVec.ofNat 32 (if i = .tick then n + 1 else n) := by
  subst hn
  split
  · rw [BitVec.ofNat_add, ← h]
    exact (sub_add_eq_add_sub now start 1).symm
  · exact h

/-- Settles O39: the run is kept while `TICKS` counts, or the element was written at the present tick. -/
theorem elapsedTimesCountTicks : Obligations.ElapsedTimesCountTicks := by
  intro i s t k m h hr before
  obtain ⟨-, -, e⟩ := exec_effect h
  generalize t.blk = b at e hr
  have ticks := ticks_eq_of_effect e (ne_reset_of_effect e hr)
  obtain ⟨running, startTick, lapStart, -, lapCount⟩ | ⟨-, rfl⟩ | ⟨-, stopped, rfl⟩ | ⟨rfl, running, room, rfl⟩ :=
    run_of_effect e
  · have running' := running.symm.trans hr
    obtain ⟨lap, total⟩ := before running'
    simp only [running', lapCount, startTick, lapStart, ne_eq, not_true_eq_false, Bool.true_eq_false, or_self, if_false]
    exact ⟨elapsed_eq lap ticks, elapsed_eq total ticks⟩
  · cases hr
  · simp [stopped]
  · obtain ⟨-, total⟩ := before running
    have counted := recordLap_lapCount_toNat room s.blk.ticks s.blk.lapElapsed
    have recorded : (s.blk.recordLap s.blk.ticks s.blk.lapElapsed).lapCount ≠ s.blk.lapCount := by
      intro same
      rw [same] at counted
      omega
    refine ⟨?_, ?_⟩
    · rw [if_pos (.inr recorded)]
      exact BitVec.sub_self _
    · simpa [running] using total

/-! Recorded laps (R110). -/

/-- The recorded laps of the first block are laps of the second, as they were. -/
def LapsKept (a b : Block) : Prop :=
  a.lapCount.toNat ≤ b.lapCount.toNat ∧ ∀ k, k < a.lapCount.toNat → b.lap k = a.lap k

theorem lapsKept_of_effect {s : State} {i : Instr} {b : Block} (e : Effect s i b) (table : s.blk.LapTableOk s.cfg)
    (hi : i ≠ .reset) : LapsKept s.blk b := by
  obtain ⟨-, -, -, laps, lapCount⟩ | ⟨reset, -⟩ | ⟨-, stopped, -⟩ | ⟨-, -, room, rfl⟩ := run_of_effect e
  · exact ⟨by rw [lapCount], fun k _ => by rw [Block.lap, Block.lap, laps]⟩
  · exact absurd reset hi
  · have none := table.stopped stopped
    exact ⟨by simp [none], fun k hk => absurd hk (by simp [none])⟩
  · have counted := recordLap_lapCount_toNat room s.blk.ticks s.blk.lapElapsed
    exact ⟨(Nat.le_succ _).trans_eq counted.symm, fun k hk => recordLap_lap_of_lt hk s.blk.ticks s.blk.lapElapsed⟩

/-- Settles O40: with the table kept, every effect but that of `@RESET` keeps the laps. -/
theorem recordedLapsNeverChange : Obligations.RecordedLapsNeverChange := by
  intro ts s t k table noReset h hk
  obtain ⟨-, kept⟩ := runTrace_keeps (R := fun c a b => a.LapTableOk c → b.LapTableOk c ∧ LapsKept a b)
    (fun _ _ table => ⟨table, le_rfl, fun _ _ => rfl⟩)
    (fun first rest table => by
      obtain ⟨table', count, laps⟩ := first table
      obtain ⟨table'', count', laps'⟩ := rest table'
      exact ⟨table'', count.trans count', fun k hk => (laps' k (hk.trans_le count)).trans (laps k hk)⟩)
    (fun i hi _ _ e table => ⟨lapTableOk_of_effect e table, lapsKept_of_effect e table (noReset i hi)⟩) h
  obtain ⟨-, count, laps⟩ := kept table
  exact ⟨laps k hk, count⟩

/-! The halted block (R163, R168). -/

/-- A block after instructions of which only the ticks and the edges count. -/
def afterEvents (b : Block) (is : List Instr) : Block :=
  { b with ticks := b.ticks + BitVec.ofNat 32 (is.count .tick), press := b.press || is.contains .edge }

theorem afterEvents_cons (b : Block) (i : Instr) (is : List Instr) :
    afterEvents b (i :: is) = afterEvents (afterEvents b [i]) is := by
  have ticks : (i :: is).count .tick = [i].count .tick + is.count .tick := List.count_append (l₁ := [i])
  simp [afterEvents, ticks, BitVec.ofNat_add, BitVec.add_assoc, Bool.or_assoc]

/-- A halted block answers a command and counts an event. -/
theorem exec_halted {i : Instr} {s : State} (hf : s.blk.fault = true) (hi : i ≠ .reset) :
    ∃ t, exec i s = .next t ∧ t.blk = afterEvents s.blk [i] := by
  cases i with
  | tick => exact ⟨_, exec_tick s, by simp [afterEvents, Block.countTick]⟩
  | edge => exact ⟨_, exec_edge s, by simp [afterEvents, Block.setPress]⟩
  | reset => exact absurd rfl hi
  | _ => exact ⟨_, exec_halted_of_opcodeOf rfl hf, by simp [afterEvents]⟩

/-- Settles O48: step by step, the fault staying latched. -/
theorem haltedUntilReset : Obligations.HaltedUntilReset := by
  intro ts
  induction ts with
  | nil => exact fun s _ _ => ⟨s, rfl, by simp [instrsOf]⟩
  | cons u ts ih =>
    intro s hf noReset
    obtain ⟨hu, later⟩ := List.forall_mem_cons.mp noReset
    obtain ⟨v, hv, first⟩ := exec_halted (s := s.setCfgOk u.cfgOk) hf hu
    obtain ⟨t, ht, rest⟩ := ih v (by rw [first]; exact hf) later
    refine ⟨t, runTrace_cons_next.mpr ⟨v, hv, ht⟩, ?_⟩
    calc t.blk = afterEvents (afterEvents s.blk [u.instr]) (instrsOf ts) := by rw [rest, first]; rfl
      _ = afterEvents s.blk (instrsOf (u :: ts)) := (afterEvents_cons s.blk u.instr (instrsOf ts)).symm

/-! The laps are the gaps between presses (R108). -/

/-- The lap table after these gaps: the first `LAP_N` of them, then zeros. -/
def lapTable (c : Cfg) (gaps : List Nat) : List Tick :=
  (gaps.take c.lapN).map (BitVec.ofNat 32) ++ List.replicate (c.lapN - gaps.length) 0#32

/-- One more gap is written at the first free entry. -/
theorem lapTable_concat {c : Cfg} {gaps : List Nat} (room : gaps.length < c.lapN) (n : Nat) :
    (lapTable c gaps).set gaps.length (BitVec.ofNat 32 n) = lapTable c (gaps ++ [n]) := by
  obtain ⟨k, hk⟩ : ∃ k, c.lapN = gaps.length + 1 + k := ⟨c.lapN - (gaps.length + 1), by omega⟩
  have free : c.lapN - gaps.length = k + 1 := by omega
  have left : c.lapN - (gaps ++ [n]).length = k := by
    rw [List.length_append, List.length_singleton]
    omega
  rw [lapTable, lapTable, free, left, List.take_of_length_le room.le, List.take_of_length_le (by simpa using room)]
  simp [List.replicate_succ]

/-- A gap after a full table is not recorded. -/
theorem lapTable_concat_full {c : Cfg} {gaps : List Nat} (full : c.lapN ≤ gaps.length) (n : Nat) :
    lapTable c (gaps ++ [n]) = lapTable c gaps := by
  have none : c.lapN - (gaps ++ [n]).length = c.lapN - gaps.length := by
    rw [List.length_append, List.length_singleton]
    omega
  rw [lapTable, lapTable, none, List.take_append_of_le_length full]

/-- A block that started at the tick `start` and processed a press after each of the gaps. While the table has room, the present
tick is that of the last press. -/
structure Processed (c : Cfg) (b : Block) (start : Tick) (gaps : List Nat) : Prop where
  noFault : b.fault = false
  running : b.running = true
  started : b.startTick = start
  table : b.laps = lapTable c gaps
  count : b.lapCount.toNat = min gaps.length c.lapN
  begun : gaps.length < c.lapN → b.lapStart = b.ticks

theorem processed_startRun {b : Block} (hf : b.fault = false) (c : Cfg) (now : Tick) (hb : b.ticks = now) :
    Processed c (b.startRun c now) now [] where
  noFault := hf
  running := rfl
  started := rfl
  table := by simp [lapTable]
  count := (Nat.zero_min _).symm
  begun _ := hb.symm

/-- The first press starts the stopwatch. -/
theorem processed_start {s : State} (hf : s.blk.fault = false) (hr : s.blk.running = false) :
    ∃ t, runInstrs [.edge, .swPress] s = .next t ∧ t.cfg = s.cfg ∧ Processed s.cfg t.blk s.blk.ticks [] := by
  have start := exec_swPress_start (s := (s.setBlk (s.blk.setPress true)).silent) hf rfl hr
  exact ⟨_, (runInstrs_cons_of_next (exec_edge s) _).trans ((runInstrs_singleton _ _).trans start), rfl,
    processed_startRun (b := (s.blk.setPress true).setPress false) hf s.cfg s.blk.ticks rfl⟩

/-- A lap pass records its gap while the table has room, and else consumes the press. -/
theorem processed_lapPass {s : State} {start : Tick} {gaps : List Nat} (done : Processed s.cfg s.blk start gaps)
    (n : Nat) :
    ∃ t, runInstrs (lapPass n) s = .next t ∧ t.cfg = s.cfg ∧ Processed s.cfg t.blk start (gaps ++ [n]) := by
  obtain ⟨noFault, running, started, table, count, begun⟩ := done
  have length : (gaps ++ [n]).length = gaps.length + 1 := List.length_append
  by_cases room : gaps.length < s.cfg.lapN
  · rw [Nat.min_eq_left room.le] at count
    have room' : s.blk.lapCount.toNat < s.cfg.lapN := by rwa [count]
    have lap := exec_swPress_lap (s := pressedAfter s n) noFault rfl running room'
    rw [lapElapsed_pressedAfter (begun room)] at lap
    refine ⟨_, (runInstrs_lapPass s n).trans lap, rfl, noFault, running, started, ?table, ?count, fun _ => rfl⟩
    case table =>
      rw [← lapTable_concat room, ← table, ← count]
      rfl
    case count =>
      rw [length, Nat.min_eq_left (Nat.succ_le_of_lt room), ← count]
      exact recordLap_lapCount_toNat (lapRoom_eq_true_iff.mpr room') s.blk.ticks s.blk.lapElapsed
  · have full := Nat.not_lt.mp room
    rw [Nat.min_eq_right full] at count
    have consumed := exec_swPress_full (s := pressedAfter s n) noFault rfl running count.not_lt
    have full' : s.cfg.lapN ≤ (gaps ++ [n]).length := by omega
    refine ⟨_, (runInstrs_lapPass s n).trans consumed, rfl, noFault, running, started,
      table.trans (lapTable_concat_full full n).symm, ?_, fun more => absurd more full'.not_gt⟩
    rw [Nat.min_eq_right full']
    exact count

theorem processed_lapPasses {s : State} {start : Tick} {done : List Nat} (h : Processed s.cfg s.blk start done)
    (gaps : List Nat) :
    ∃ t, runInstrs (gaps.flatMap lapPass) s = .next t ∧ t.cfg = s.cfg ∧ Processed s.cfg t.blk start (done ++ gaps) := by
  induction gaps generalizing s done with
  | nil => exact ⟨s, rfl, rfl, by rwa [List.append_nil]⟩
  | cons n gaps ih =>
    obtain ⟨u, hu, cfg, next⟩ := processed_lapPass h n
    rw [← cfg] at next
    obtain ⟨t, ht, cfg', last⟩ := ih next
    rw [cfg, List.append_assoc, List.singleton_append] at last
    exact ⟨t, (runInstrs_append_of_next hu _).trans ht, cfg'.trans cfg, last⟩

/-- Settles O34: the first press, then one lap pass for each gap. -/
theorem lapsAreGapsBetweenPresses : Obligations.LapsAreGapsBetweenPresses := by
  intro s gaps hf hr
  obtain ⟨u, hu, cfg, first⟩ := processed_start hf hr
  rw [← cfg] at first
  obtain ⟨t, ht, -, last⟩ := processed_lapPasses first gaps
  rw [cfg] at last
  exact ⟨t, (runInstrs_append_of_next hu _).trans ht, last.table, last.count, last.running, last.started⟩

/-- Settles O37: the tiling (R109), with the running lap added on both sides. -/
theorem lapsAndRunningLapMakeTotal : Obligations.LapsAndRunningLapMakeTotal := by
  intro s tile hf hr room
  obtain ⟨-, answers⟩ := swUpdateAnswers
  refine ⟨s.blk.ticks - s.blk.startTick, s.blk.ticks - s.blk.lapStart, by simp [answers s hf, hr, room], ?_⟩
  rw [tile hr]
  abel

end Sys2Proof.Proofs.Executions
end

section
/-! The ports run what is presented at them (20_memory.md section 3, 10_state.md section 9): a presented step is the step run
directly, and so are a finite and an infinite sequence of steps (R49, R53, R162). -/

namespace Sys2Proof.Proofs.Presented

open Sys2Proof Sys2Proof.Machine Sys2Proof.Proofs.Encoding Sys2Proof.Proofs.Ports Sys2Proof.Proofs.StepInvariants
  Sys2Proof.Proofs.Frames

/-! Runs of the machine. -/

theorem run_one {s t : State} (h : step s = .next t) : Host.Core.run core 1 s = .next t := by
  have stepped : core.step s = .next t := h
  simp only [Host.Core.run, stepped]

theorem run_add (M : Host.Core) {m : Nat} {s t : M.State} (h : M.run m s = .next t) (n : Nat) :
    M.run (m + n) s = M.run n t := by
  induction m generalizing s with
  | zero =>
    cases h
    rw [Nat.zero_add]
  | succ m ih =>
    rw [Nat.add_right_comm]
    simp only [Host.Core.run] at h ⊢
    cases hs : M.step s with
    | next u =>
      rw [hs] at h
      exact ih h
    | fault r =>
      rw [hs] at h
      cases h
    | refused r =>
      rw [hs] at h
      cases h

/-! One instant. -/

/-- Nothing waits at the ports, and these instants are listed. -/
def OnlyComing (p : Io) (ts : List Instant) : Prop := p.cmd = none ∧ p.evt = 0#3 ∧ p.coming = ts

/-- When nothing waits, the fetch serves the first instant listed. -/
theorem fetch_of_onlyComing {p : Io} {x : Instant} {rest : List Instant} (only : OnlyComing p (x :: rest)) :
    p.fetch = ({ p.show x with coming := rest } : Io).serve := by
  obtain ⟨cmd, evt, coming⟩ := only
  have idle : p.idle = true := by rw [Io.idle, List.isEmpty_iff, ready_eq_nil_iff]; exact ⟨cmd, evt⟩
  rw [fetch_eq_serve, if_pos idle, Io.present, coming]

/-- An instant that carries nothing: the machine waits. -/
theorem step_waits {s : State} {x : Instant} {rest : List Instant} (only : OnlyComing s.io (x :: rest))
    (cmd : x.cmd = none) (evt : x.events s.io.btn = 0#3) :
    ∃ p, step s = .next { s with io := p, rsp := none } ∧ OnlyComing p rest ∧ p.btn = x.btn := by
  have none : ({ s.io.show x with coming := rest } : Io).ready = [] := ready_eq_nil_iff.mpr ⟨cmd, evt⟩
  refine ⟨{ s.io.show x with coming := rest }, step_of_fetch_none ?_, ⟨cmd, evt, rfl⟩, rfl⟩
  rw [fetch_of_onlyComing only, Io.serve, none]
  rfl

/-- An instant that carries one instruction: the machine runs it, and nothing waits any more. -/
theorem step_serves {s : State} {x : Instant} {rest : List Instant} {w : PortWord} {i : Instr}
    (only : OnlyComing s.io (x :: rest)) (alone : Alone (s.io.show x) w) (hd : decode w = .ok i) :
    ∃ p, step s = exec i (s.setIo p) ∧ p.cfgOk = x.cfgOk ∧ OnlyComing p rest := by
  have alone' : Alone { s.io.show x with coming := rest } w := alone
  have fetched := fetch_of_onlyComing only
  rw [serve_of_ready_singleton (ready_of_alone alone'), taken_of_alone alone'] at fetched
  exact ⟨_, (step_of_fetch_some fetched).trans (serveWord_of_decode_ok hd _), rfl, rfl, rfl, rfl⟩

/-! One step, presented. -/

/-- The block, the response and the configuration are the same. -/
def SameShown (p s : State) : Prop := p.blk = s.blk ∧ p.rsp = s.rsp ∧ p.cfg = s.cfg

/-- An instant that carries the step's instruction and draw does what the step does. -/
theorem step_runs {u : TraceStep} {p s t : State} {x : Instant} {rest : List Instant} {w : PortWord}
    (h : u.run s = .next t) (blk : p.blk = s.blk) (cfg : p.cfg = s.cfg) (hd : decode w = .ok u.instr)
    (level : x.cfgOk = u.cfgOk) (only : OnlyComing p.io (x :: rest)) (alone : Alone (p.io.show x) w) :
    ∃ v, Host.Core.run core 1 p = .next v ∧ SameShown v t ∧ OnlyComing v.io rest := by
  obtain ⟨q, hq, level', only'⟩ := step_serves only alone hd
  have ran := exec_withPorts h p.rsp (p := q) (level'.trans level)
  have start : withPorts (s.setCfgOk u.cfgOk) p.rsp q = p.setIo q := by
    rw [withPorts, State.setCfgOk_cfg, State.setCfgOk_blk, ← blk, ← cfg, State.setIo]
  rw [start] at ran
  exact ⟨withPorts t t.rsp q, run_one (hq.trans ran), ⟨rfl, rfl, rfl⟩, only'⟩

/-- With `btn_i` low there is no edge. -/
theorem events_low (cmd : Option CmdWord) (ok tick rst was : Bool) :
    (⟨cmd, ok, tick, false, rst⟩ : Instant).events was = BitVec.ofBool rst ++ 0#1 ++ BitVec.ofBool tick := by
  rw [Instant.events, Bool.and_false]
  rfl

/-- With `btn_i` high after a low level there is an edge. -/
theorem events_rise (cmd : Option CmdWord) (ok tick rst : Bool) :
    (⟨cmd, ok, tick, true, rst⟩ : Instant).events false = BitVec.ofBool rst ++ 1#1 ++ BitVec.ofBool tick := rfl

/-- The instants of a step, presented where nothing waits, do what the step does (R35, R68). -/
theorem run_instants {u : TraceStep} {p s t : State} {rest : List Instant} (wf : u.instr.wellFormed = true)
    (h : u.run s = .next t) (same : SameShown p s) (only : OnlyComing p.io (u.instants ++ rest)) :
    ∃ v, Host.Core.run core u.instants.length p = .next v ∧ SameShown v t ∧ OnlyComing v.io rest := by
  obtain ⟨blk, -, cfg⟩ := same
  have hd := encodedInstructionsDecode u.instr wf
  cases he : encode u.instr with
  | command w =>
    rw [he] at hd
    simp only [TraceStep.instants, instantsOf, he] at only ⊢
    exact step_runs h blk cfg hd rfl only ⟨rfl, events_low ..⟩
  | event e =>
    rw [he] at hd
    cases e with
    | tick | rst =>
      simp only [TraceStep.instants, instantsOf, he] at only ⊢
      exact step_runs h blk cfg hd rfl only ⟨rfl, events_low ..⟩
    | edge =>
      simp only [TraceStep.instants, instantsOf, he] at only ⊢
      obtain ⟨q, waited, only', low⟩ := step_waits only rfl (events_low ..)
      have rise : Alone (q.show ⟨none, u.cfgOk, false, true, false⟩) (.event .edge) := by
        refine ⟨rfl, ?_⟩
        rw [Io.show_evt, low]
        exact events_rise ..
      obtain ⟨v, ran, done⟩ := step_runs (p := { p with io := q, rsp := none }) h blk cfg hd rfl only' rise
      exact ⟨v, (run_add core (run_one waited) 1).trans ran, done⟩

/-! Sequences. -/

/-- A finite sequence of steps, presented one after the other. -/
theorem run_presented {ts : List TraceStep} {p s t : State} (wf : ∀ u ∈ ts, u.instr.wellFormed = true)
    (h : runTrace ts s = .next t) (same : SameShown p s) (only : OnlyComing p.io (ts.flatMap TraceStep.instants)) :
    ∃ v, Host.Core.run core (ts.flatMap TraceStep.instants).length p = .next v ∧ SameShown v t ∧
      OnlyComing v.io [] := by
  induction ts generalizing p s with
  | nil =>
    cases h
    exact ⟨p, rfl, same, only⟩
  | cons u ts ih =>
    obtain ⟨first, later⟩ := List.forall_mem_cons.mp wf
    obtain ⟨r, hr, ht⟩ := runTrace_cons_next.mp h
    obtain ⟨q, ran, same', only'⟩ := run_instants first hr same only
    obtain ⟨v, rest, done⟩ := ih later ht same' only'
    refine ⟨v, ?_, done⟩
    rw [List.flatMap_cons, List.length_append]
    exact (run_add core ran _).trans rest

/-- A property that can always be carried one index further by a related element gives an infinite sequence. -/
theorem exists_sequence {α : Type} {P : Nat → α → Prop} {R : Nat → α → α → Prop} {a : α} (start : P 0 a)
    (next : ∀ n b, P n b → ∃ c, R n b c ∧ P (n + 1) c) :
    ∃ f : Nat → α, f 0 = a ∧ ∀ n, P n (f n) ∧ R n (f n) (f (n + 1)) := by
  have : Nonempty α := ⟨a⟩
  choose! g related kept using next
  have holds : ∀ n, P n (Nat.rec a g n) := fun n => Nat.rec start (fun n => kept n _) n
  exact ⟨fun n => Nat.rec a g n, rfl, fun n => ⟨holds n, related n _ (holds n)⟩⟩

/-- Settles O60: each step is presented where nothing waits and leaves nothing waiting; infinite sequences are built step by step. -/
theorem portsRunThePresentedSequence : Obligations.PortsRunThePresentedSequence := by
  refine ⟨fun ts s inRange => ?execution, fun ts states wf executes cmd evt coming => ?infinite,
    fun ts s t wf cmd evt coming h => ?finite⟩
  case execution =>
    obtain ⟨states, start, steps⟩ := exists_sequence (P := fun _ b => b.cfg = s.cfg)
      (R := fun n b c => (ts n).run b = .next c) (a := s) rfl fun n b cfg => by
        obtain ⟨c, hc⟩ := exec_next (i := (ts n).instr) (s := b.setCfgOk (ts n).cfgOk) fun mv hi =>
          .inl ((inRange n mv hi).trans_eq (congrArg (fun c : Cfg => c.vrefMv) cfg.symm))
        obtain ⟨kept, -⟩ := TraceStep.run_effect (u := ts n) hc
        exact ⟨c, hc, kept.trans cfg⟩
    exact ⟨states, start, fun n => (steps n).2⟩
  case infinite =>
    obtain ⟨ports, start, steps⟩ := exists_sequence (P := fun n p => SameShown p (states n) ∧ OnlyComing p.io [])
      (R := fun n p q => Host.Core.run core (ts n).instants.length (p.offer (ts n).instants) = .next q)
      (a := states 0) ⟨⟨rfl, rfl, rfl⟩, cmd, evt, coming⟩ fun n p ⟨same, cmd, evt, coming⟩ => by
        have offered : OnlyComing (p.offer (ts n).instants).io ((ts n).instants ++ []) := by
          refine ⟨cmd, evt, ?_⟩
          rw [State.offer_io, coming, List.nil_append, List.append_nil]
        exact run_instants (wf n) (executes n) same offered
    refine ⟨ports, start, fun n => ?_⟩
    obtain ⟨⟨same, -⟩, ran⟩ := steps n
    exact ⟨ran, same⟩
  case finite =>
    obtain ⟨u, ran, ⟨blk, rsp, cfg⟩, -, -, coming'⟩ := run_presented wf h ⟨rfl, rfl, rfl⟩ ⟨cmd, evt, coming⟩
    exact ⟨u, ran, blk, rsp, cfg, coming'⟩

end Sys2Proof.Proofs.Presented
end
